-- ==== Sys2Proof/Word.lean ====
section
/-! DEFINITION. The bit vectors the spec names by width (00_scope.md R4, R7): all unsigned. -/

namespace Sys2Proof

/-- `BYTE_W` = 8: a packed byte, an LRC value, a count byte. -/
abbrev Byte := BitVec 8

/-- `CRC_W` = `ARG_W` = `VAL_W` = 16: a CRC, an operand field, a response value. -/
abbrev Word16 := BitVec 16

/-- `CMD_W` = 24: a command word (30_encoding.md R45). -/
abbrev CmdWord := BitVec 24

/-- `RSP_W` = 20: a response word (30_encoding.md R46). -/
abbrev RspWord := BitVec 20

end Sys2Proof
end

