-- ==== Sys2Proof/Syntax.lean ====
section
/-! DEFINITION. The commands, one constructor per row of spec/opcode_table.json (30_encoding.md R50). -/

namespace Sys2Proof

/-- A command with a recognised opcode. Every command word carries the whole 16-bit `arg` field (R45), also where the command's
format uses fewer bits of it or none: a row is selected by `op` alone, and must-be-zero bits are looked at only afterwards
(R50, R52), so a command with a bad operand is still that command (log entry 6). -/
inductive Instr where
  /-- CRC.INIT, `op` = 0x10 (R69). -/
  | crcInit (arg : Word16)
  /-- CRC.UPD, `op` = 0x11 (R70). -/
  | crcUpd (arg : Word16)
  /-- CRC.RD, `op` = 0x12 (R71). -/
  | crcRd (arg : Word16)
  /-- CRC.CHK, `op` = 0x13 (R73). -/
  | crcChk (arg : Word16)
  /-- LRC.INIT, `op` = 0x20 (R82). -/
  | lrcInit (arg : Word16)
  /-- LRC.UPD, `op` = 0x21 (R83). -/
  | lrcUpd (arg : Word16)
  /-- LRC.RD, `op` = 0x22 (R84). -/
  | lrcRd (arg : Word16)
  /-- LRC.CHK, `op` = 0x23 (R85). -/
  | lrcChk (arg : Word16)
  /-- PK.INIT, `op` = 0x30 (R91). -/
  | pkInit (arg : Word16)
  /-- PK.BIT, `op` = 0x31 (R92). -/
  | pkBit (arg : Word16)
  /-- PK.FLUSH, `op` = 0x32 (R93). -/
  | pkFlush (arg : Word16)
  /-- UP.INIT, `op` = 0x40 (R101). -/
  | upInit (arg : Word16)
  /-- UP.BYTE, `op` = 0x41 (R102). -/
  | upByte (arg : Word16)
  /-- UP.END, `op` = 0x42 (R103). -/
  | upEnd (arg : Word16)
  deriving DecidableEq, Repr

end Sys2Proof
end

