-- ==== Sys2Proof/WellFormed.lean ====
section
/-! DEFINITION. Operand formats, functional units, and when a command's operand is legal (00_scope.md R1; 30_encoding.md R48). -/

namespace Sys2Proof

/-- The four operand formats of R48. -/
inductive Format where
  /-- No operand. -/
  | z
  /-- A 16-bit unsigned integer. -/
  | w
  /-- A byte. -/
  | b
  /-- A Boolean. -/
  | f
  deriving DecidableEq, Repr

/-- The bits of `arg` that R48 requires to be zero, as a mask. -/
def Format.mustBeZero : Format → Word16
  | .z => 0xFFFF#16
  | .w => 0x0000#16
  | .b => 0xFF00#16
  | .f => 0xFFFE#16

/-- The four functional units of R1. -/
inductive FuncUnit where
  | crc
  | lrc
  | packer
  | unpacker
  deriving DecidableEq, Repr

/-- The `arg` field of a command (R45). -/
def Instr.arg : Instr → Word16
  | .crcInit a => a
  | .crcUpd a => a
  | .crcRd a => a
  | .crcChk a => a
  | .lrcInit a => a
  | .lrcUpd a => a
  | .lrcRd a => a
  | .lrcChk a => a
  | .pkInit a => a
  | .pkBit a => a
  | .pkFlush a => a
  | .upInit a => a
  | .upByte a => a
  | .upEnd a => a

/-- The operand format of each command ("used by" in R48). -/
def Instr.format : Instr → Format
  | .crcInit _ => .z
  | .crcUpd _ => .w
  | .crcRd _ => .z
  | .crcChk _ => .w
  | .lrcInit _ => .z
  | .lrcUpd _ => .b
  | .lrcRd _ => .z
  | .lrcChk _ => .w
  | .pkInit _ => .z
  | .pkBit _ => .f
  | .pkFlush _ => .z
  | .upInit _ => .z
  | .upByte _ => .b
  | .upEnd _ => .z

/-- The unit a command belongs to (R1, R45). -/
def Instr.unit : Instr → FuncUnit
  | .crcInit _ => .crc
  | .crcUpd _ => .crc
  | .crcRd _ => .crc
  | .crcChk _ => .crc
  | .lrcInit _ => .lrc
  | .lrcUpd _ => .lrc
  | .lrcRd _ => .lrc
  | .lrcChk _ => .lrc
  | .pkInit _ => .packer
  | .pkBit _ => .packer
  | .pkFlush _ => .packer
  | .upInit _ => .unpacker
  | .upByte _ => .unpacker
  | .upEnd _ => .unpacker

/-- A command is well formed when its must-be-zero operand bits are zero (R48, R53). -/
def Instr.wf (i : Instr) : Bool := i.arg &&& i.format.mustBeZero == 0x0000#16

end Sys2Proof
end

