-- ==== Sys2Proof/Decode.lean ====
section
/-! DEFINITION. The decoder, total on the 24-bit command words, and after it the encoder (30_encoding.md R45, R50, R51, R56). -/

namespace Sys2Proof

/-- `op = cmd[23:16]` (R45). -/
def opField (w : CmdWord) : Byte := w.extractLsb' 16 8

/-- `arg = cmd[15:0]` (R45). -/
def argField (w : CmdWord) : Word16 := w.extractLsb' 0 16

/-- One row of the opcode map (R50): a word `w` selects it when `w & mask = pattern`. -/
structure OpRow where
  mnemonic : String
  format : Format
  pattern : CmdWord
  mask : CmdWord
  make : Word16 → Instr

/-- The opcode map of R50 with its match and mask columns. -/
def opcodeMap : List OpRow :=
  [⟨"CRC.INIT", .z, 0x100000, 0xFF0000, .crcInit⟩,
   ⟨"CRC.UPD", .w, 0x110000, 0xFF0000, .crcUpd⟩,
   ⟨"CRC.RD", .z, 0x120000, 0xFF0000, .crcRd⟩,
   ⟨"CRC.CHK", .w, 0x130000, 0xFF0000, .crcChk⟩] ++
  [⟨"LRC.INIT", .z, 0x200000, 0xFF0000, .lrcInit⟩,
   ⟨"LRC.UPD", .b, 0x210000, 0xFF0000, .lrcUpd⟩,
   ⟨"LRC.RD", .z, 0x220000, 0xFF0000, .lrcRd⟩,
   ⟨"LRC.CHK", .w, 0x230000, 0xFF0000, .lrcChk⟩] ++
  [⟨"PK.INIT", .z, 0x300000, 0xFF0000, .pkInit⟩,
   ⟨"PK.BIT", .f, 0x310000, 0xFF0000, .pkBit⟩,
   ⟨"PK.FLUSH", .z, 0x320000, 0xFF0000, .pkFlush⟩] ++
  [⟨"UP.INIT", .z, 0x400000, 0xFF0000, .upInit⟩,
   ⟨"UP.BYTE", .b, 0x410000, 0xFF0000, .upByte⟩,
   ⟨"UP.END", .z, 0x420000, 0xFF0000, .upEnd⟩]

/-- `w` selects the row `r` (R50). -/
def OpRow.selects (r : OpRow) (w : CmdWord) : Bool := w &&& r.mask == r.pattern

/-- Why a word is no command. -/
inductive DecodeReject where
  /-- `op` is not in the opcode map (R51); the machine answers ERR IllegalOpcode (R119). -/
  | illegalOpcode (op : Byte)
  deriving DecidableEq, Repr

/-- The command a word selects, by `op` alone (R50, R52 steps 1 and 2). -/
def decode (w : CmdWord) : Except DecodeReject Instr :=
  match opcodeMap.find? (·.selects w) with
  | some r => .ok (r.make (argField w))
  | none => .error (.illegalOpcode (opField w))

/-- The command word made of an instruction's `nbits` low bits of `w`. A command is one word of 24 bits at the command port, so
there is no byte order to lay out (R45, R55; 20_memory.md R34). -/
def tableWord (nbits w : Nat) : CmdWord := BitVec.ofNat 24 (w % 2 ^ nbits)

/-- The decoder on an opcode-table word. -/
def decodeTableWord (nbits w : Nat) : Option Instr :=
  match decode (tableWord nbits w) with
  | .ok i => some i
  | .error _ => none

/-- The opcode of each command: the `op` column of R50. -/
def Instr.op : Instr → Byte
  | .crcInit _ => 0x10
  | .crcUpd _ => 0x11
  | .crcRd _ => 0x12
  | .crcChk _ => 0x13
  | .lrcInit _ => 0x20
  | .lrcUpd _ => 0x21
  | .lrcRd _ => 0x22
  | .lrcChk _ => 0x23
  | .pkInit _ => 0x30
  | .pkBit _ => 0x31
  | .pkFlush _ => 0x32
  | .upInit _ => 0x40
  | .upByte _ => 0x41
  | .upEnd _ => 0x42

/-- The command word `{op, arg}` (R45, R56). -/
def encode (i : Instr) : CmdWord := i.op ++ i.arg

end Sys2Proof
end

