-- ==== Sys2Proof/Config.lean ====
section
/-! DEFINITION. The parameters the spec fixes (00_scope.md section 4, R4) and the model's one free value. -/

namespace Sys2Proof.Config

/-- `POLY`: "reflected Modbus CRC16 polynomial" (00_scope.md section 4, R4). -/
def poly : Word16 := 0xA001#16

/-- `SEED`: the initial CRC (00_scope.md section 4, R4). -/
def seed : Word16 := 0xFFFF#16

/-- `LRC_SEED`: "no seed offset" (00_scope.md section 4, R4; 41_lrc.md R80). -/
def lrcSeed : Byte := 0x00#8

/-- The value UPREM holds after a data byte `y` is taken in phase DATA while `UPREM = 0` and `UPCNT = cnt`.
The spec gives none: R8 says the decrement is applied only when `UPREM >= 1`, and invariant I4 of R18 says that no run from
reset meets the case. A FREE VALUE without a body: nothing can be proved of it (log entry 8). -/
opaque upRemUnderflow (cnt y : Byte) : Byte

end Sys2Proof.Config
end

