-- ==== Sys2Proof/Machine/CrcTable.lean ====
section
/-! DEFINITION. The CRC table `T`, a constant (10_state.md R10, R27, R28), and the update of the CRC by one byte (40_crc16.md R70). -/

namespace Sys2Proof.Machine

/-- One of the eight rounds of R10: the low bit is tested before the shift. -/
def tableRound (c : Word16) : Word16 :=
  if c.getLsbD 0 then (c >>> 1) ^^^ Config.poly else c >>> 1

/-- `n` rounds. -/
def tableRounds : Nat → Word16 → Word16
  | 0, c => c
  | n + 1, c => tableRounds n (tableRound c)

/-- `T[i]` (R10). Every index is populated, and reading has no side effect (20_memory.md R31). -/
def crcTable (i : Byte) : Word16 := tableRounds 8 (i.setWidth 16)

/-- `zext_16(CRC[15:8]) ^ T[CRC[7:0] ^ b]` (R70): one table read. -/
def crcFold (c : Word16) (b : Byte) : Word16 :=
  (c.extractLsb' 8 8).setWidth 16 ^^^ crcTable (c.extractLsb' 0 8 ^^^ b)

end Sys2Proof.Machine
end

