-- ==== Sys2Proof/Machine/Flags.lean ====
section
/-! DEFINITION. The block has no flags (10_state.md R21). The outcome of a check is a Boolean in the response (30_encoding.md R59). -/

namespace Sys2Proof.Machine

/-- `0x0001` for true, `0x0000` for false (R59). -/
def boolVal (b : Bool) : Word16 := if b then 0x0001#16 else 0x0000#16

end Sys2Proof.Machine
end

