-- ==== Sys2Proof/Machine/State.lean ====
section
/-! DEFINITION. The machine's state, its reset value, and the reasons a step could stop (10_state.md R11 to R26). -/

namespace Sys2Proof.Machine

/-- The phase register UPPH (R15). The encoding 3 is never reached (R18 I2), and the spec asks for a three-valued type
(93_implementation_defined.md U20; log entry 7). -/
inductive Phase where
  /-- Encoded 0: the next byte is the count byte. -/
  | count
  /-- Encoded 1: UPREM more data bytes are to be decoded. -/
  | data
  /-- Encoded 2: every declared data byte has been decoded. -/
  | done
  deriving DecidableEq, Repr

/-- What the host drives on the input ports at one rising edge of `clk` (R25). -/
structure PortSample where
  rst : Bool
  cmdValid : Bool
  cmd : CmdWord
  deriving DecidableEq, Repr

/-- The seven architectural registers (R11 to R17), the two interface registers (R24, R25), and the host's drive of the input
ports at the coming edges, oldest first (`inputs` is the model's own field: log entry 1). The table `T` is constant (R27) and is
no field: it is `crcTable` (log entry 5). -/
structure State where
  crc : Word16
  lrc : Byte
  pkAcc : Byte
  pkN : BitVec 3
  upPh : Phase
  upCnt : Byte
  upRem : Byte
  rspV : Bool
  rsp : RspWord
  inputs : List PortSample
  deriving DecidableEq, Repr

/-- No step faults: an error is a response, after which the block runs on (60_exceptions.md R115, R122), and `Exec` is total
(00_scope.md R6). So there is no constructor, and nobody raises one (log entry 9). -/
inductive Fault where
  deriving DecidableEq, Repr

/-- The reasons for which the model could leave an instruction out. -/
inductive Refusal where
  /-- Raised by `exec` for an instruction that has no meaning yet; no arm raises it now. Safe: the run stops. -/
  | notModelled (mnemonic : String)
  deriving DecidableEq, Repr

/-- The state after a reset edge (R26; 70_reset_and_hazards.md R136), with nothing listed on the input ports (log entry 3). -/
def State.reset : State where
  crc := 0xFFFF#16
  lrc := 0x00#8
  pkAcc := 0x00#8
  pkN := 0#3
  upPh := .count
  upCnt := 0x00#8
  upRem := 0x00#8
  rspV := false
  rsp := 0x00000#20
  inputs := []

end Sys2Proof.Machine
end

