-- ==== Sys2Proof/Machine/Ops.lean ====
section
/-! DEFINITION. The shared operations: responses, raising an error, the reset edge and the idle edge (30_encoding.md R46, R47;
60_exceptions.md R115, R116; 10_state.md R24; 70_reset_and_hazards.md R136). -/

namespace Sys2Proof.Machine

/-- How every meaning and the step end. -/
abbrev Result := Host.Outcome State Fault Refusal

/-- The three errors (R116). -/
inductive CmdError where
  | illegalOpcode
  | badOperand
  | formatError
  deriving DecidableEq, Repr

/-- The error codes (R116). -/
def CmdError.code : CmdError → Word16
  | .illegalOpcode => 0x0001#16
  | .badOperand => 0x0002#16
  | .formatError => 0x0003#16

/-- What a command answers (R47). -/
inductive Response where
  | ack
  | val (v : Word16)
  | err (e : CmdError)
  deriving DecidableEq, Repr

/-- The response word `{kind, val}` (R46, R47). -/
def Response.word : Response → RspWord
  | .ack => 0x0#4 ++ 0x0000#16
  | .val v => 0x1#4 ++ v
  | .err e => 0xF#4 ++ e.code

/-- `kind = rsp[19:16]` (R46). -/
def rspKind (r : RspWord) : BitVec 4 := r.extractLsb' 16 4

/-- `val = rsp[15:0]` (R46). -/
def rspVal (r : RspWord) : Word16 := r.extractLsb' 0 16

/-- `RSP <- r`, `RSPV <- 1` (R24). -/
def latch (r : Response) (s : State) : State := { s with rspV := true, rsp := r.word }

/-- A command ends with the response `r` and the registers as they stand in `s`. -/
def respond (r : Response) (s : State) : Result := .next (latch r s)

/-- `raise`, the block's whole exception mechanism (R115): the command is abandoned with no architectural register written, and
the code is answered. `s` is the state before the command. Nothing is saved, so there is no return (R122, R127). -/
def raise (e : CmdError) (s : State) : Result := respond (.err e) s

/-- The registers at an edge with `rst` = 1 (R136). The input list is the outside's and stays. -/
def resetEdge (s : State) : State :=
  { s with
    crc := 0xFFFF#16, lrc := 0x00#8, pkAcc := 0x00#8, pkN := 0#3, upPh := .count, upCnt := 0x00#8, upRem := 0x00#8,
    rspV := false, rsp := 0x00000#20 }

/-- The registers at an edge with `rst` = 0 and `cmd_valid` = 0 (R24). -/
def idleEdge (s : State) : State := { s with rspV := false, rsp := 0x00000#20 }

end Sys2Proof.Machine
end

