-- ==== Sys2Proof/Machine/Operands.lean ====
section
/-! DEFINITION. The operand formats as the machine reads them, and the check of their must-be-zero bits (30_encoding.md R48, R49,
R52, R53; 60_exceptions.md R120). -/

namespace Sys2Proof.Machine

/-- `arg[7:0]` (format B; the index part of CRC.UPD). -/
def argByte (arg : Word16) : Byte := arg.extractLsb' 0 8

/-- `arg[0]` (format F). -/
def argBit (arg : Word16) : BitVec 1 := arg.extractLsb' 0 1

/-- Step 3 of R52: the must-be-zero bits of a format are zero. -/
def operandLegal (fmt : Format) (arg : Word16) : Bool :=
  match fmt with
  | .z => arg == 0x0000#16
  | .w => true
  | .b => arg.extractLsb' 8 8 == 0x00#8
  | .f => arg.extractLsb' 1 15 == 0#15

/-- The operand check before a command's own rule (R52 steps 3 and 4, R53): BadOperand, or the rule's own answer `ok`. -/
def checkOperand (fmt : Format) (arg : Word16) (s : State) (ok : Result) : Result :=
  if operandLegal fmt arg then ok else raise .badOperand s

end Sys2Proof.Machine
end

