-- ==== Sys2Proof/Machine/Crc.lean ====
section
/-! DEFINITION. The CRC unit's commands (40_crc16.md R69, R70, R71, R73). -/

namespace Sys2Proof.Machine

/-- CRC.INIT (R69). -/
def execCrcInit (arg : Word16) (s : State) : Result :=
  checkOperand .z arg s (respond .ack { s with crc := Config.seed })

/-- CRC.UPD (R70). Every `arg` is legal; `arg[15:8]` has no effect. -/
def execCrcUpd (arg : Word16) (s : State) : Result :=
  checkOperand .w arg s (respond .ack { s with crc := crcFold s.crc (argByte arg) })

/-- CRC.RD (R71). -/
def execCrcRd (arg : Word16) (s : State) : Result :=
  checkOperand .z arg s (respond (.val s.crc) s)

/-- CRC.CHK (R73). A mismatch is a result, not an error. -/
def execCrcChk (arg : Word16) (s : State) : Result :=
  checkOperand .w arg s (respond (.val (boolVal (s.crc == arg))) s)

end Sys2Proof.Machine
end

