-- ==== Sys2Proof/Machine/Lrc.lean ====
section
/-! DEFINITION. The LRC unit's commands (41_lrc.md R82 to R85). -/

namespace Sys2Proof.Machine

/-- LRC.INIT (R82). -/
def execLrcInit (arg : Word16) (s : State) : Result :=
  checkOperand .z arg s (respond .ack { s with lrc := Config.lrcSeed })

/-- LRC.UPD (R83). An element above 255 is refused (R88). -/
def execLrcUpd (arg : Word16) (s : State) : Result :=
  checkOperand .b arg s (respond .ack { s with lrc := s.lrc ^^^ argByte arg })

/-- LRC.RD (R84). -/
def execLrcRd (arg : Word16) (s : State) : Result :=
  checkOperand .z arg s (respond (.val (s.lrc.setWidth 16)) s)

/-- LRC.CHK (R85). All 16 bits of the expected value take part. -/
def execLrcChk (arg : Word16) (s : State) : Result :=
  checkOperand .w arg s (respond (.val (boolVal (s.lrc.setWidth 16 == arg))) s)

end Sys2Proof.Machine
end

