-- ==== Sys2Proof/Machine/Pack.lean ====
section
/-! DEFINITION. The bit packer's commands (42_bitpack.md R91 to R93). -/

namespace Sys2Proof.Machine

/-- `acc | (zext_8(v) << n)` (R92): the bit `v` placed at position `n` of the pending bits. -/
def placeBit (acc : Byte) (n : BitVec 3) (v : BitVec 1) : Byte := acc ||| (v.setWidth 8 <<< n.toNat)

/-- No bit pending (R91, and the emitting arms of R92 and R93). -/
def clearPacker (s : State) : State := { s with pkAcc := 0x00#8, pkN := 0#3 }

/-- PK.INIT (R91). -/
def execPkInit (arg : Word16) (s : State) : Result :=
  checkOperand .z arg s (respond .ack (clearPacker s))

/-- PK.BIT (R92). The eighth bit of a group emits the byte. -/
def execPkBit (arg : Word16) (s : State) : Result :=
  checkOperand .f arg s
    (if s.pkN = 7#3 then
      respond (.val ((placeBit s.pkAcc s.pkN (argBit arg)).setWidth 16)) (clearPacker s)
    else
      respond .ack { s with pkAcc := placeBit s.pkAcc s.pkN (argBit arg), pkN := s.pkN + 1#3 })

/-- PK.FLUSH (R93). With no bit pending nothing is emitted; the command does no masking of its own. -/
def execPkFlush (arg : Word16) (s : State) : Result :=
  checkOperand .z arg s
    (if s.pkN = 0#3 then respond .ack s else respond (.val (s.pkAcc.setWidth 16)) (clearPacker s))

end Sys2Proof.Machine
end

