-- ==== Sys2Proof/Machine/Unpack.lean ====
section
/-! DEFINITION. The bit unpacker's commands (43_bitunpack.md R101 to R103). -/

namespace Sys2Proof.Machine

/-- `UPREM - 1` in phase DATA (R102). The spec applies it only where `UPREM >= 1` (R8); elsewhere the value is free (log entry 8). -/
def countDown (s : State) (y : Byte) : Byte :=
  if s.upRem = 0x00#8 then Config.upRemUnderflow s.upCnt y else s.upRem - 0x01#8

/-- R102, phase COUNT: `y` is the count byte. -/
def takeCount (y : Byte) (s : State) : State :=
  { s with upCnt := y, upRem := y, upPh := if y = 0x00#8 then .done else .data }

/-- R102, phase DATA: `y` is a data byte; the last declared one ends the phase. -/
def takeData (y : Byte) (s : State) : State :=
  { s with upRem := countDown s y, upPh := if s.upRem = 0x01#8 then .done else s.upPh }

/-- UP.INIT (R101). -/
def execUpInit (arg : Word16) (s : State) : Result :=
  checkOperand .z arg s (respond .ack { s with upPh := .count, upCnt := 0x00#8, upRem := 0x00#8 })

/-- UP.BYTE (R102). -/
def execUpByte (arg : Word16) (s : State) : Result :=
  checkOperand .b arg s
    (match s.upPh with
    | .count => respond .ack (takeCount (argByte arg) s)
    | .data => respond (.val ((argByte arg).setWidth 16)) (takeData (argByte arg) s)
    | .done => respond .ack s)

/-- UP.END (R103, 60_exceptions.md R117). -/
def execUpEnd (arg : Word16) (s : State) : Result :=
  checkOperand .z arg s
    (match s.upPh with
    | .done => respond (.val (s.upCnt.setWidth 16)) s
    | .count => raise .formatError s
    | .data => raise .formatError s)

end Sys2Proof.Machine
end

