-- ==== Sys2Proof/Machine/Dispatch.lean ====
section
/-! DEFINITION. One arm per command: step 4 of `Exec`, with the operand check of step 3 inside each meaning (30_encoding.md R52). -/

namespace Sys2Proof.Machine

def exec (i : Instr) (s : State) : Host.Outcome State Fault Refusal :=
  match i with
  | .crcInit arg => Sys2Proof.Machine.execCrcInit arg s
  | .crcUpd arg => Sys2Proof.Machine.execCrcUpd arg s
  | .crcRd arg => Sys2Proof.Machine.execCrcRd arg s
  | .crcChk arg => Sys2Proof.Machine.execCrcChk arg s
  | .lrcInit arg => Sys2Proof.Machine.execLrcInit arg s
  | .lrcUpd arg => Sys2Proof.Machine.execLrcUpd arg s
  | .lrcRd arg => Sys2Proof.Machine.execLrcRd arg s
  | .lrcChk arg => Sys2Proof.Machine.execLrcChk arg s
  | .pkInit arg => Sys2Proof.Machine.execPkInit arg s
  | .pkBit arg => Sys2Proof.Machine.execPkBit arg s
  | .pkFlush arg => Sys2Proof.Machine.execPkFlush arg s
  | .upInit arg => Sys2Proof.Machine.execUpInit arg s
  | .upByte arg => Sys2Proof.Machine.execUpByte arg s
  | .upEnd arg => Sys2Proof.Machine.execUpEnd arg s

end Sys2Proof.Machine
end

