-- ==== Sys2Proof/Machine/Port.lean ====
section
/-! DEFINITION. The clocked binding: what one rising edge of `clk` does with what the host drives on the ports (10_state.md R24,
R25; 30_encoding.md R52; 70_reset_and_hazards.md R136). -/

namespace Sys2Proof.Machine

/-- `Exec` on a command word (R52): an unknown opcode raises IllegalOpcode before anything else is looked at (R119). -/
def execWord (w : CmdWord) (s : State) : Result :=
  match decode w with
  | .ok i => exec i s
  | .error (.illegalOpcode _) => raise .illegalOpcode s

/-- One rising edge: reset first (R136), then a valid command (R24), else idle. -/
def clockEdge (p : PortSample) (s : State) : Result :=
  if p.rst then .next (resetEdge s)
  else if p.cmdValid then execWord p.cmd s
  else .next (idleEdge s)

/-- `rst` = 0 and `cmd_valid` = 0; `cmd` is then ignored (R25). -/
def PortSample.idle : PortSample := ⟨false, false, 0x000000#24⟩

/-- The word `w` presented as a command. -/
def PortSample.command (w : CmdWord) : PortSample := ⟨false, true, w⟩

/-- What the host drives at the next edge, and what is left of its list. A host that has listed nothing more drives an idle port
(log entry 2). -/
def nextSample : List PortSample → PortSample × List PortSample
  | [] => (.idle, [])
  | p :: ps => (p, ps)

/-- The next edge of `s`. -/
def edge (s : State) : Result :=
  clockEdge (nextSample s.inputs).1 { s with inputs := (nextSample s.inputs).2 }

/-- The word presented at the very next edge, before whatever the host drives after it (log entry 3). -/
def presentWord (w : CmdWord) (s : State) : State := { s with inputs := .command w :: s.inputs }

end Sys2Proof.Machine
end

