-- ==== Sys2Proof/Machine/Step.lean ====
section
/-! DEFINITION. One step is one rising edge of `clk` (10_state.md R24). -/

namespace Sys2Proof.Machine

def step (s : State) : Host.Outcome State Fault Refusal := edge s

/-- `s` with the opcode-table word `w` on the command port at the next edge. There is no stored program (10_state.md R20): commands
come from the host, and this stands for the host's sending one (log entry 3). -/
def State.withFetchWord (s : State) (nbits w : Nat) : State := presentWord (tableWord nbits w) s

end Sys2Proof.Machine
end

