-- ==== Sys2Proof/Machine/Assembly.lean ====
section
/-! DEFINITION. The textual syntax of a command: reading a line into a command word, and writing a command as a line (30_encoding.md
R56). What R56 leaves open is log entry 11. -/

namespace Sys2Proof.Machine

/-- What a line of text is. -/
inductive AsmLine where
  /-- Nothing but white space or a comment. -/
  | blank
  /-- A command, or a raw word after `.word`. -/
  | word (w : CmdWord)
  /-- Not in the syntax of R56. -/
  | malformed
  deriving DecidableEq, Repr

/-- `--` starts a comment. -/
def stripComment : List Char → List Char
  | [] => []
  | '-' :: '-' :: _ => []
  | c :: cs => c :: stripComment cs

/-- The word gathered so far, if it is one. -/
def flushToken (cur : List Char) : List (List Char) := if cur = [] then [] else [cur]

/-- The words of a line; `cur` is the word being gathered. -/
def tokens (cur : List Char) : List Char → List (List Char)
  | [] => flushToken cur
  | c :: cs => if c = ' ' || c = '\t' then flushToken cur ++ tokens [] cs else tokens (cur ++ [c]) cs

/-- The value of a digit in a base up to 16. -/
def digitValue? (base : Nat) (c : Char) : Option Nat :=
  let v :=
    if '0' ≤ c ∧ c ≤ '9' then c.toNat - '0'.toNat
    else if 'A' ≤ c ∧ c ≤ 'F' then c.toNat - 'A'.toNat + 10
    else if 'a' ≤ c ∧ c ≤ 'f' then c.toNat - 'a'.toNat + 10
    else 16
  if v < base then some v else none

/-- Digits read onto `acc`, most significant first. -/
def digits? (base acc : Nat) : List Char → Option Nat
  | [] => some acc
  | c :: cs =>
    match digitValue? base c with
    | some v => digits? base (acc * base + v) cs
    | none => none

/-- A number, decimal or `0x` hexadecimal. -/
def number? : List Char → Option Nat
  | [] => none
  | '0' :: 'x' :: c :: cs => digits? 16 0 (c :: cs)
  | c :: cs => digits? 10 0 (c :: cs)

/-- How many operand values a format has. -/
def operandCount : Format → Nat
  | .z => 1
  | .w => 65536
  | .b => 256
  | .f => 2

/-- A line that is a mnemonic and its operand words. -/
def assembleRow (r : OpRow) (args : List (List Char)) : AsmLine :=
  match r.format, args with
  | .z, [] => .word (encode (r.make 0x0000#16))
  | .z, _ => .malformed
  | fmt, [a] =>
    match number? a with
    | some n => if n < operandCount fmt then .word (encode (r.make (BitVec.ofNat 16 n))) else .malformed
    | none => .malformed
  | _, _ => .malformed

/-- The words of a line as a command or a raw word. -/
def assembleTokens : List (List Char) → AsmLine
  | [] => .blank
  | t :: args =>
    if t = ".word".toList then
      match args with
      | [a] =>
        match number? a with
        | some n => if n < 2 ^ 24 then .word (BitVec.ofNat 24 n) else .malformed
        | none => .malformed
      | _ => .malformed
    else
      match opcodeMap.find? (fun r => r.mnemonic.toList == t) with
      | some r => assembleRow r args
      | none => .malformed

/-- One line of text (R56). -/
def assembleLine (line : List Char) : AsmLine := assembleTokens (tokens [] (stripComment line))

/-- A program, one command a line. -/
def assembleLines (lines : List (List Char)) : Option (List CmdWord) :=
  lines.foldr
    (fun line rest =>
      match assembleLine line, rest with
      | .blank, some ws => some ws
      | .word w, some ws => some (w :: ws)
      | _, _ => none)
    (some [])

/-- The mnemonic of a command, `<UNIT>.<FUNCTION>` in capitals (R50, R56). -/
def mnemonic : Instr → String
  | .crcInit _ => "CRC.INIT"
  | .crcUpd _ => "CRC.UPD"
  | .crcRd _ => "CRC.RD"
  | .crcChk _ => "CRC.CHK"
  | .lrcInit _ => "LRC.INIT"
  | .lrcUpd _ => "LRC.UPD"
  | .lrcRd _ => "LRC.RD"
  | .lrcChk _ => "LRC.CHK"
  | .pkInit _ => "PK.INIT"
  | .pkBit _ => "PK.BIT"
  | .pkFlush _ => "PK.FLUSH"
  | .upInit _ => "UP.INIT"
  | .upByte _ => "UP.BYTE"
  | .upEnd _ => "UP.END"

/-- A hexadecimal digit. -/
def hexChar (n : Nat) : Char := if n < 10 then Char.ofNat (n + '0'.toNat) else Char.ofNat (n - 10 + 'A'.toNat)

/-- The `k` low hexadecimal digits of `v`, most significant first. -/
def hexDigits : Nat → Nat → List Char
  | 0, _ => []
  | k + 1, v => hexDigits k (v / 16) ++ [hexChar (v % 16)]

/-- The operand words of a well-formed command. -/
def operandText (i : Instr) : List Char :=
  match i.format with
  | .z => []
  | .w => ' ' :: '0' :: 'x' :: hexDigits 4 i.arg.toNat
  | .b => ' ' :: '0' :: 'x' :: hexDigits 2 i.arg.toNat
  | .f => [' ', hexChar i.arg.toNat]

/-- A command as a line; one with a bad operand is written as its raw word (R56). -/
def renderLine (i : Instr) : List Char :=
  if i.wf then (mnemonic i).toList ++ operandText i
  else ".word".toList ++ (' ' :: '0' :: 'x' :: hexDigits 6 (encode i).toNat)

end Sys2Proof.Machine
end

