-- ==== Sys2Proof/Machine/Reference.lean ====
section
/-! DEFINITION. The source's six reference functions over whole sequences, which are normative (00_scope.md R3): 40_crc16.md R65 to
R67, 41_lrc.md R80, R81, 42_bitpack.md R90, 43_bitunpack.md R100. -/

namespace Sys2Proof.Machine

/-- `crc_step(c, e)` for a non-negative integer element (R65). -/
def crcStep (c : Word16) (e : Nat) : Word16 :=
  (c.extractLsb' 8 8).setWidth 16 ^^^ crcTable (c.extractLsb' 0 8 ^^^ BitVec.ofNat 8 (e % 256))

/-- `computeCRC(d)` (R66). -/
def computeCRC (d : List Nat) : Word16 := d.foldl crcStep Config.seed

/-- `checkCRC(d, x)`: `x` is compared as a number (R67). -/
def checkCRC (d : List Nat) (x : Nat) : Bool := (computeCRC d).toNat == x

/-- `computeLRC(d)`, on elements 0 to 255 only (R80, R88). -/
def computeLRC (d : List Byte) : Byte := d.foldl (· ^^^ ·) Config.lrcSeed

/-- `checkLRC(d, x)`: `x` is compared as a number (R81). -/
def checkLRC (d : List Byte) (x : Nat) : Bool := (computeLRC d).toNat == x

/-- The byte `y_k` of R90: bit `j` is `b[8k + j]`, and 0 beyond the end of `b`. -/
def packGroup (b : List Bool) (k : Nat) : Byte :=
  (List.range 8).foldl (fun y j => if b.getD (8 * k + j) false then y ||| (1#8 <<< j) else y) 0#8

/-- `ceil(n/8)` (00_scope.md section 6.2). -/
def ceilDiv8 (n : Nat) : Nat := (n + 7) / 8

/-- `packBits(b)` (R90): no count byte in front (R94). -/
def packBits (b : List Bool) : List Byte := (List.range (ceilDiv8 b.length)).map (packGroup b)

/-- The eight Booleans of a data byte, `y[0]` first (R100, R104; 20_memory.md R33). -/
def byteBits (y : Byte) : List Bool := (List.range 8).map fun j => y.getLsbD j

/-- `unpackBits(buf)`: the bits and `byteCount`, or FormatError (R100). -/
def unpackBits : List Byte → Except CmdError (List Bool × Byte)
  | [] => .error .formatError
  | y0 :: ys =>
    if ys.length < y0.toNat then .error .formatError
    else .ok ((ys.take y0.toNat).flatMap byteBits, y0)

end Sys2Proof.Machine
end

