-- ==== Sys2Proof/Machine/Trace.lean ====
section
/-! DEFINITION. Runs of the block as the host sees them: what it drives, edge by edge, and what the response port shows after each
edge (10_state.md R24, R25; 20_memory.md R39). -/

namespace Sys2Proof.Machine

/-- What the response port shows: `rsp` while `rsp_valid` is 1. -/
def State.shown (s : State) : Option RspWord := if s.rspV then some s.rsp else none

/-- `n` edges, with what is shown after each. -/
def runEdges : Nat → State → Host.Outcome (State × List (Option RspWord)) Fault Refusal
  | 0, s => .next (s, [])
  | n + 1, s =>
    match step s with
    | .next t =>
      match runEdges n t with
      | .next (u, rs) => .next (u, t.shown :: rs)
      | .fault r => .fault r
      | .refused r => .refused r
    | .fault r => .fault r
    | .refused r => .refused r

/-- The host drives `ps`, one sample an edge, in place of whatever it had listed. -/
def runPort (ps : List PortSample) (s : State) : Host.Outcome (State × List (Option RspWord)) Fault Refusal :=
  runEdges ps.length { s with inputs := ps }

/-- A command presented in its own encoding. -/
def PortSample.ofInstr (i : Instr) : PortSample := .command (encode i)

/-- The recognised command a sample has the block execute, if it has one (R24, R52). -/
def PortSample.instr? (p : PortSample) : Option Instr :=
  if p.rst || !p.cmdValid then none
  else
    match decode p.cmd with
    | .ok i => some i
    | .error _ => none

/-- The commands of unit `u` in a drive, in order. -/
def unitCommands (u : FuncUnit) (ps : List PortSample) : List Instr :=
  ps.filterMap fun p => p.instr?.filter (·.unit == u)

/-- The response to a sample, kept when the sample is a command of unit `u`. -/
def unitResponse (u : FuncUnit) (p : PortSample) (r : Option RspWord) : Option RspWord :=
  match p.instr? with
  | some i => if i.unit == u then r else none
  | none => none

/-- The responses to the commands of unit `u`, in order: `rs` is what was shown after each sample of `ps`. -/
def unitResponses (u : FuncUnit) (ps : List PortSample) (rs : List (Option RspWord)) : List RspWord :=
  (List.zipWith (unitResponse u) ps rs).filterMap id

/-- `val[7:0]` of a VAL response; nothing for another kind (30_encoding.md R47, R59). -/
def valByte? (r : RspWord) : Option Byte :=
  if rspKind r = 0x1#4 then some ((rspVal r).extractLsb' 0 8) else none

end Sys2Proof.Machine
end

