-- ==== Sys2Proof/Machine/Macros.lean ====
section
/-! DEFINITION. The six macros: their expansion into commands and how a result is read from the responses (30_encoding.md R57). -/

namespace Sys2Proof.Machine

/-- The macros of R57. -/
inductive Macro where
  | computeCRC (d : List Word16)
  | checkCRC (d : List Word16) (x : Word16)
  | computeLRC (d : List Byte)
  | checkLRC (d : List Byte) (x : Word16)
  | packBits (b : List Bool)
  | unpackBits (buf : List Byte)
  deriving DecidableEq, Repr

/-- What a macro yields. -/
inductive MacroResult where
  | crc (v : Word16)
  | lrc (v : Byte)
  | truth (v : Bool)
  | bytes (ys : List Byte)
  | bits (bs : List Bool) (byteCount : Byte)
  | formatError
  deriving DecidableEq, Repr

/-- A PK.BIT operand: 1 is true (R48). -/
def bitOperand (v : Bool) : Word16 := if v then 0x0001#16 else 0x0000#16

/-- The command sequence of a macro (R57). -/
def Macro.expand : Macro → List Instr
  | .computeCRC d => .crcInit 0x0000#16 :: d.map .crcUpd ++ [.crcRd 0x0000#16]
  | .checkCRC d x => .crcInit 0x0000#16 :: d.map .crcUpd ++ [.crcChk x]
  | .computeLRC d => .lrcInit 0x0000#16 :: d.map (fun e => .lrcUpd (e.setWidth 16)) ++ [.lrcRd 0x0000#16]
  | .checkLRC d x => .lrcInit 0x0000#16 :: d.map (fun e => .lrcUpd (e.setWidth 16)) ++ [.lrcChk x]
  | .packBits b => .pkInit 0x0000#16 :: b.map (fun v => .pkBit (bitOperand v)) ++ [.pkFlush 0x0000#16]
  | .unpackBits buf => .upInit 0x0000#16 :: buf.map (fun y => .upByte (y.setWidth 16)) ++ [.upEnd 0x0000#16]

/-- The result of a macro, read from the responses to its commands in order (R57). -/
def Macro.result (m : Macro) (rs : List RspWord) : MacroResult :=
  match m with
  | .computeCRC _ => .crc (rspVal (rs.getLastD 0x00000#20))
  | .checkCRC _ _ => .truth ((rspVal (rs.getLastD 0x00000#20)).getLsbD 0)
  | .computeLRC _ => .lrc ((rspVal (rs.getLastD 0x00000#20)).extractLsb' 0 8)
  | .checkLRC _ _ => .truth ((rspVal (rs.getLastD 0x00000#20)).getLsbD 0)
  | .packBits _ => .bytes (rs.filterMap valByte?)
  | .unpackBits _ =>
    if rspKind (rs.getLastD 0x00000#20) = 0x1#4 then
      .bits ((rs.dropLast.filterMap valByte?).flatMap byteBits) ((rspVal (rs.getLastD 0x00000#20)).extractLsb' 0 8)
    else .formatError

/-- What the macro's reference function gives (R66, R67, R80, R81, R90, R100). -/
def Macro.reference : Macro → MacroResult
  | .computeCRC d => .crc (Machine.computeCRC (d.map BitVec.toNat))
  | .checkCRC d x => .truth (Machine.checkCRC (d.map BitVec.toNat) x.toNat)
  | .computeLRC d => .lrc (Machine.computeLRC d)
  | .checkLRC d x => .truth (Machine.checkLRC d x.toNat)
  | .packBits b => .bytes (Machine.packBits b)
  | .unpackBits buf =>
    match Machine.unpackBits buf with
    | .ok (bs, n) => .bits bs n
    | .error _ => .formatError

end Sys2Proof.Machine
end

