-- ==== Sys2Proof/Safety.lean ====
section
/-! DEFINITION. What holds of every safe run: the register invariants and the legal responses (10_state.md R18; 30_encoding.md R47;
60_exceptions.md R116), and the state agreements that claims use. -/

namespace Sys2Proof.Machine

/-- The invariants I1, I3, I4 and I5 of R18. I2 (UPPH is one of three phases) holds by the type `Phase`. -/
def State.Inv (s : State) : Prop :=
  s.pkAcc >>> s.pkN.toNat = 0x00#8 ∧
  (s.upPh = .count → s.upCnt = 0x00#8 ∧ s.upRem = 0x00#8) ∧
  (s.upPh = .data → 1 ≤ s.upRem.toNat ∧ s.upRem.toNat ≤ s.upCnt.toNat) ∧
  (s.upPh = .done → s.upRem = 0x00#8)

/-- A response word of R47 and R116: ACK with `val` 0, VAL, or ERR with one of the three codes. -/
def LegalResponse (r : RspWord) : Prop :=
  r = 0x00000#20 ∨ rspKind r = 0x1#4 ∨ r = 0xF0001#20 ∨ r = 0xF0002#20 ∨ r = 0xF0003#20

/-- The response port: a legal word while `rsp_valid` is 1, and the zero word while it is 0 (R24). -/
def State.PortLegal (s : State) : Prop :=
  (s.rspV = true → LegalResponse s.rsp) ∧ (s.rspV = false → s.rsp = 0x00000#20)

/-- The registers of one unit agree. -/
def State.AgreeOn (u : FuncUnit) (s t : State) : Prop :=
  match u with
  | .crc => s.crc = t.crc
  | .lrc => s.lrc = t.lrc
  | .packer => s.pkAcc = t.pkAcc ∧ s.pkN = t.pkN
  | .unpacker => s.upPh = t.upPh ∧ s.upCnt = t.upCnt ∧ s.upRem = t.upRem

/-- All seven architectural registers agree (R24: the tuple `State` of the spec). -/
def State.SameRegs (s t : State) : Prop :=
  s.crc = t.crc ∧ s.lrc = t.lrc ∧ s.pkAcc = t.pkAcc ∧ s.pkN = t.pkN ∧ s.upPh = t.upPh ∧ s.upCnt = t.upCnt ∧ s.upRem = t.upRem

/-- The commands that write `CRC`, when they are not refused (R11). -/
def writesCrc : Instr → Bool
  | .crcInit a => a == 0x0000#16
  | .crcUpd _ => true
  | _ => false

/-- The commands that write `LRC`, when they are not refused (R12). -/
def writesLrc : Instr → Bool
  | .lrcInit a => a == 0x0000#16
  | .lrcUpd a => a.extractLsb' 8 8 == 0x00#8
  | _ => false

/-- A command sequence begins with the unit's INIT command, or the unit is in the state reset leaves it in (R26). -/
def StartsFresh (u : FuncUnit) (init : Instr) (pre : List Instr) (s : State) : Prop :=
  pre = [init] ∨ (pre = [] ∧ State.AgreeOn u s State.reset)

/-- No sample resets the block. -/
def NoReset (ps : List PortSample) : Prop := ∀ p ∈ ps, p.rst = false

end Sys2Proof.Machine
end

