-- ==== Sys2Proof/Certificates/Slice0/Obligations.lean ====
section
/-! DEFINITION. The statements for the provers. Response words are written out: ACK is 0x00000, VAL(v) is 0x1 followed by the 16 bits
of v, ERR is 0xF followed by the code (30_encoding.md R46, R47; 60_exceptions.md R116). -/

open Sys2Proof Sys2Proof.Machine

/-! ### Encoding -/

/-- One word of every unit, and two illegal ones, as 30_encoding.md R50 and 95_test_vectors.md write them. -/
def Obligations.SpecWordsDecodeToTheirCommands : Prop :=
  decode 0x100000#24 = .ok (.crcInit 0x0000) ∧ decode 0x110031#24 = .ok (.crcUpd 0x0031) ∧
  decode 0x13CDC5#24 = .ok (.crcChk 0xCDC5) ∧ decode 0x21000A#24 = .ok (.lrcUpd 0x000A) ∧
  decode 0x310001#24 = .ok (.pkBit 0x0001) ∧ decode 0x320000#24 = .ok (.pkFlush 0x0000) ∧
  decode 0x410055#24 = .ok (.upByte 0x0055) ∧ decode 0x420000#24 = .ok (.upEnd 0x0000) ∧
  decode 0x000000#24 = .error (.illegalOpcode 0x00) ∧ decode 0xFFFFFF#24 = .error (.illegalOpcode 0xFF)

/-- R50: "a word `w` selects the row when `(w & mask) == match`", for each of the 14 rows, whatever the operand bits. -/
def Obligations.OpcodeMapRowsSelectTheirCommands : Prop :=
  ∀ w : CmdWord,
    (w &&& 0xFF0000#24 = 0x100000#24 ↔ decode w = .ok (.crcInit (w.extractLsb' 0 16))) ∧
    (w &&& 0xFF0000#24 = 0x110000#24 ↔ decode w = .ok (.crcUpd (w.extractLsb' 0 16))) ∧
    (w &&& 0xFF0000#24 = 0x120000#24 ↔ decode w = .ok (.crcRd (w.extractLsb' 0 16))) ∧
    (w &&& 0xFF0000#24 = 0x130000#24 ↔ decode w = .ok (.crcChk (w.extractLsb' 0 16))) ∧
    (w &&& 0xFF0000#24 = 0x200000#24 ↔ decode w = .ok (.lrcInit (w.extractLsb' 0 16))) ∧
    (w &&& 0xFF0000#24 = 0x210000#24 ↔ decode w = .ok (.lrcUpd (w.extractLsb' 0 16))) ∧
    (w &&& 0xFF0000#24 = 0x220000#24 ↔ decode w = .ok (.lrcRd (w.extractLsb' 0 16))) ∧
    (w &&& 0xFF0000#24 = 0x230000#24 ↔ decode w = .ok (.lrcChk (w.extractLsb' 0 16))) ∧
    (w &&& 0xFF0000#24 = 0x300000#24 ↔ decode w = .ok (.pkInit (w.extractLsb' 0 16))) ∧
    (w &&& 0xFF0000#24 = 0x310000#24 ↔ decode w = .ok (.pkBit (w.extractLsb' 0 16))) ∧
    (w &&& 0xFF0000#24 = 0x320000#24 ↔ decode w = .ok (.pkFlush (w.extractLsb' 0 16))) ∧
    (w &&& 0xFF0000#24 = 0x400000#24 ↔ decode w = .ok (.upInit (w.extractLsb' 0 16))) ∧
    (w &&& 0xFF0000#24 = 0x410000#24 ↔ decode w = .ok (.upByte (w.extractLsb' 0 16))) ∧
    (w &&& 0xFF0000#24 = 0x420000#24 ↔ decode w = .ok (.upEnd (w.extractLsb' 0 16)))

/-- R51: the 242 illegal values of `op`; each is answered with IllegalOpcode whatever `arg` holds, with no register changed (R119). -/
def Obligations.IllegalOpcodesAreRefusedWhateverTheOperand : Prop :=
  (∀ w : CmdWord,
    (∃ r, decode w = .error r) ↔
      (w.extractLsb' 16 8).toNat ≤ 0x0F ∨
      (0x14 ≤ (w.extractLsb' 16 8).toNat ∧ (w.extractLsb' 16 8).toNat ≤ 0x1F) ∨
      (0x24 ≤ (w.extractLsb' 16 8).toNat ∧ (w.extractLsb' 16 8).toNat ≤ 0x2F) ∨
      (0x33 ≤ (w.extractLsb' 16 8).toNat ∧ (w.extractLsb' 16 8).toNat ≤ 0x3F) ∨
      0x43 ≤ (w.extractLsb' 16 8).toNat) ∧
  (∀ (w : CmdWord) (r : DecodeReject) (s : State) (ps : List PortSample),
    decode w = .error r → s.inputs = .command w :: ps →
      step s = .next { s with inputs := ps, rspV := true, rsp := 0xF0001#20 })

/-- Decoding and encoding agree on every word and every command, with every operand bit (R45, R50, R55: a word is one whole
command, and no bit of it is dropped). -/
def Obligations.DecodeAndEncodeAgreeOnEveryWord : Prop :=
  ∀ (w : CmdWord) (i : Instr), decode w = .ok i ↔ w = encode i

/-- A command written as a line of text reads back as its own word, a command with a bad operand through `.word` (R56; the number
format written is the model's choice, log entry 11). -/
def Obligations.AssemblerReadsBackWrittenCommands : Prop :=
  ∀ i : Instr, assembleLine (renderLine i) = .word (encode i)

/-! ### The edge: commands, idle edges, reset -/

/-- A step runs the decoded command: at an edge with a valid command word and no reset, the step is `exec` of the decoded command on
the state with that sample taken off the host's list. The second clause is the model's choice (log entry 3), not R24's or R52's:
`withFetchWord` and `decodeTableWord` stand for the host's sending one word, and make it the very next command. -/
def Obligations.StepRunsTheDecodedCommand : Prop :=
  (∀ (w : CmdWord) (i : Instr) (s : State) (ps : List PortSample),
    decode w = .ok i → s.inputs = .command w :: ps → step s = exec i { s with inputs := ps }) ∧
  (∀ (w : CmdWord) (i : Instr) (s : State),
    decode w = .ok i →
      decodeTableWord 24 w.toNat = some i ∧ step (s.withFetchWord 24 w.toNat) = exec i s)

/-- R24: at an edge with `rst` = 0 a valid command is executed on the values before the edge and its response is latched; else the
state is unchanged and RSP and RSPV are cleared. The state and response of `Exec` do not depend on RSP and RSPV. -/
def Obligations.ClockEdgeExecutesOrIdles : Prop :=
  ∀ (s : State) (p : PortSample) (ps : List PortSample), s.inputs = p :: ps → p.rst = false →
    (p.cmdValid = true →
      step s = execWord p.cmd { s with inputs := ps } ∧
      (∃ t, step s = .next t ∧ t.rspV = true) ∧
      ∀ (v : Bool) (r : RspWord), step { s with rspV := v, rsp := r } = step s) ∧
    (p.cmdValid = false → step s = .next { s with inputs := ps, rspV := false, rsp := 0x00000#20 })

/-- R136: at an edge with `rst` = 1 every register takes its reset value from any state whatever, and the command presented is
dropped without a response. -/
def Obligations.ResetEdgeClearsEveryRegister : Prop :=
  ∀ (s : State) (p : PortSample) (ps : List PortSample), s.inputs = p :: ps → p.rst = true →
    step s = .next
      { crc := 0xFFFF#16, lrc := 0x00#8, pkAcc := 0x00#8, pkN := 0#3, upPh := .count, upCnt := 0x00#8, upRem := 0x00#8,
        rspV := false, rsp := 0x00000#20, inputs := ps }

/-- R26: the reset values, and that each unit's reset state is the state its INIT command gives. That nothing is listed on the input
ports is the model's choice (log entry 3). -/
def Obligations.ResetStateIsEveryUnitsInitState : Prop :=
  (State.reset.crc = 0xFFFF#16 ∧ State.reset.lrc = 0x00#8 ∧ State.reset.pkAcc = 0x00#8 ∧ State.reset.pkN = 0#3 ∧
    State.reset.upPh = .count ∧ State.reset.upCnt = 0x00#8 ∧ State.reset.upRem = 0x00#8 ∧
    State.reset.rspV = false ∧ State.reset.rsp = 0x00000#20) ∧
  ∀ s : State,
    (∃ t, exec (.crcInit 0x0000#16) s = .next t ∧ t.AgreeOn .crc State.reset) ∧
    (∃ t, exec (.lrcInit 0x0000#16) s = .next t ∧ t.AgreeOn .lrc State.reset) ∧
    (∃ t, exec (.pkInit 0x0000#16) s = .next t ∧ t.AgreeOn .packer State.reset) ∧
    (∃ t, exec (.upInit 0x0000#16) s = .next t ∧ t.AgreeOn .unpacker State.reset)

/-- `Exec` is total on the states with the invariants of R18 (00_scope.md R6, 30_encoding.md R52), and so is the step: the block goes
on, and one sample is taken. Two cases are the model's choice: that UP.BYTE completes also in phase DATA with `UPREM` = 0 (log
entry 8), and that a step with nothing listed on the ports is an idle edge (log entry 2). -/
def Obligations.EveryStepAnswersANextState : Prop :=
  (∀ (w : CmdWord) (s : State), ∃ t, execWord w s = .next t ∧ t.rspV = true ∧ t.inputs = s.inputs) ∧
  (∀ s : State, ∃ t, step s = .next t ∧ t.inputs = s.inputs.tail)

/-- R150: "The result of a command sequence is the same whether the commands come in consecutive cycles or with any number of idle
cycles": two drives that differ only in idle samples leave the same registers and show the same responses, resets included. -/
def Obligations.IdleEdgesDoNotChangeResults : Prop :=
  ∀ (s s' : State) (ps qs : List PortSample), s.SameRegs s' →
    ps.filter (fun p => p.rst || p.cmdValid) = qs.filter (fun p => p.rst || p.cmdValid) →
    ∃ t rs t' rs', runPort ps s = .next (t, rs) ∧ runPort qs s' = .next (t', rs') ∧
      t.SameRegs t' ∧ rs.filterMap id = rs'.filterMap id

/-! ### The CRC unit -/

/-- R69. -/
def Obligations.CrcInitSetsTheSeed : Prop :=
  encode (.crcInit 0x0000#16) = 0x100000#24 ∧
  ∀ (arg : Word16) (s : State),
    (arg = 0x0000#16 → exec (.crcInit arg) s = .next { s with crc := 0xFFFF#16, rspV := true, rsp := 0x00000#20 }) ∧
    (arg ≠ 0x0000#16 → exec (.crcInit arg) s = .next { s with rspV := true, rsp := 0xF0002#20 })

/-- R70: for every operand, legal whatever its high byte. -/
def Obligations.CrcUpdFoldsTheLowByte : Prop :=
  (∀ arg : Word16, encode (.crcUpd arg) = 0x11#8 ++ arg) ∧
  ∀ (arg : Word16) (s : State),
    exec (.crcUpd arg) s = .next
      { s with
        crc := (s.crc.extractLsb' 8 8).setWidth 16 ^^^ crcTable (s.crc.extractLsb' 0 8 ^^^ arg.extractLsb' 0 8),
        rspV := true, rsp := 0x00000#20 } ∧
    (∃ t, exec (.crcUpd arg) s = .next t ∧ t.crc = crcStep s.crc arg.toNat)

/-- R71. -/
def Obligations.CrcRdAnswersTheCrc : Prop :=
  encode (.crcRd 0x0000#16) = 0x120000#24 ∧
  ∀ (arg : Word16) (s : State),
    (arg = 0x0000#16 → exec (.crcRd arg) s = .next { s with rspV := true, rsp := 0x1#4 ++ s.crc }) ∧
    (arg ≠ 0x0000#16 → exec (.crcRd arg) s = .next { s with rspV := true, rsp := 0xF0002#20 })

/-- R73: all 16 bits are compared; a mismatch is VAL(0). -/
def Obligations.CrcChkAnswersTheComparison : Prop :=
  (∀ arg : Word16, encode (.crcChk arg) = 0x13#8 ++ arg) ∧
  ∀ (arg : Word16) (s : State),
    (s.crc = arg → exec (.crcChk arg) s = .next { s with rspV := true, rsp := 0x10001#20 }) ∧
    (s.crc ≠ arg → exec (.crcChk arg) s = .next { s with rspV := true, rsp := 0x10000#20 })

/-- The computed table is the printed one (10_state.md section 3). -/
def Obligations.CrcTableIsThePrintedTable : Prop :=
  printedTable.length = 256 ∧ ∀ i : Byte, printedTable[i.toNat]? = some (crcTable i)

/-- The table is linear over exclusive or, so its eight entries at the powers of two give it all (10_state.md section 3). -/
def Obligations.CrcTableIsLinear : Prop :=
  (∀ i j : Byte, crcTable (i ^^^ j) = crcTable i ^^^ crcTable j) ∧
  crcTable 0x01#8 = 0xC0C1#16 ∧ crcTable 0x02#8 = 0xC181#16 ∧ crcTable 0x04#8 = 0xC301#16 ∧ crcTable 0x08#8 = 0xC601#16 ∧
  crcTable 0x10#8 = 0xCC01#16 ∧ crcTable 0x20#8 = 0xD801#16 ∧ crcTable 0x40#8 = 0xF001#16 ∧ crcTable 0x80#8 = 0xA001#16

/-- R68: only the low 8 bits of an element matter. -/
def Obligations.OnlyTheLowByteOfAnElementMatters : Prop :=
  (∀ (c : Word16) (e : Nat), crcStep c e = crcStep c (e % 256)) ∧
  (∀ d : List Nat, computeCRC d = computeCRC (d.map (· % 256)))

/-- R74: the empty message gives the seed; a message checks against its own CRC; flipping any single bit of a byte message changes
the CRC. -/
def Obligations.CrcDetectsEverySingleBitFlip : Prop :=
  computeCRC [] = 0xFFFF#16 ∧
  (∀ d : List Byte, checkCRC (d.map BitVec.toNat) (computeCRC (d.map BitVec.toNat)).toNat = true) ∧
  (∀ (pre post : List Byte) (e : Byte) (j : Nat), j < 8 →
    computeCRC ((pre ++ (e ^^^ (1#8 <<< j)) :: post).map BitVec.toNat) ≠
      computeCRC ((pre ++ e :: post).map BitVec.toNat))

/-- R76: feeding the CRC its own bytes, low byte first, brings it to zero. -/
def Obligations.AppendingTheCrcGivesZero : Prop :=
  ∀ s : State, ∃ t u,
    exec (.crcUpd ((s.crc.extractLsb' 0 8).setWidth 16)) s = .next t ∧
    exec (.crcUpd ((s.crc.extractLsb' 8 8).setWidth 16)) t = .next u ∧ u.crc = 0x0000#16

/-- R72: a command sequence from CRC.INIT (or from the reset value), with any commands of other units, idle edges, CRC.RD, CRC.CHK and
refused commands in between, leaves `computeCRC` of its elements in `CRC`, and CRC.RD and CRC.CHK answer accordingly; without the
INIT it leaves the fold from what `CRC` held. -/
def Obligations.CrcCommandsComputeTheCrc : Prop :=
  (∀ (s : State) (ps : List PortSample) (pre : List Instr) (d : List Word16), NoReset ps →
    StartsFresh .crc (.crcInit 0x0000#16) pre s →
    (unitCommands .crc ps).filter writesCrc = pre ++ d.map Instr.crcUpd →
    ∃ t rs, runPort ps s = .next (t, rs) ∧ t.crc = computeCRC (d.map BitVec.toNat) ∧
      exec (.crcRd 0x0000#16) t = .next { t with rspV := true, rsp := 0x1#4 ++ computeCRC (d.map BitVec.toNat) } ∧
      ∀ x : Word16, exec (.crcChk x) t = .next
        { t with rspV := true, rsp := if checkCRC (d.map BitVec.toNat) x.toNat then 0x10001#20 else 0x10000#20 }) ∧
  (∀ (s : State) (ps : List PortSample) (d : List Word16), NoReset ps →
    (unitCommands .crc ps).filter writesCrc = d.map Instr.crcUpd →
    ∃ t rs, runPort ps s = .next (t, rs) ∧ t.crc = (d.map BitVec.toNat).foldl crcStep s.crc)

/-! ### The LRC unit -/

/-- R82. -/
def Obligations.LrcInitClearsTheLrc : Prop :=
  encode (.lrcInit 0x0000#16) = 0x200000#24 ∧
  ∀ (arg : Word16) (s : State),
    (arg = 0x0000#16 → exec (.lrcInit arg) s = .next { s with lrc := 0x00#8, rspV := true, rsp := 0x00000#20 }) ∧
    (arg ≠ 0x0000#16 → exec (.lrcInit arg) s = .next { s with rspV := true, rsp := 0xF0002#20 })

/-- R83: an element above 255 is refused and leaves `LRC` as it was (R88). -/
def Obligations.LrcUpdFoldsAByteOrRefuses : Prop :=
  (∀ arg : Word16, encode (.lrcUpd arg) = 0x21#8 ++ arg) ∧
  ∀ (arg : Word16) (s : State),
    (arg.extractLsb' 8 8 = 0x00#8 →
      exec (.lrcUpd arg) s = .next { s with lrc := s.lrc ^^^ arg.extractLsb' 0 8, rspV := true, rsp := 0x00000#20 }) ∧
    (arg.extractLsb' 8 8 ≠ 0x00#8 → exec (.lrcUpd arg) s = .next { s with rspV := true, rsp := 0xF0002#20 })

/-- R84. -/
def Obligations.LrcRdAnswersTheLrc : Prop :=
  encode (.lrcRd 0x0000#16) = 0x220000#24 ∧
  ∀ (arg : Word16) (s : State),
    (arg = 0x0000#16 → exec (.lrcRd arg) s = .next { s with rspV := true, rsp := 0x1#4 ++ s.lrc.setWidth 16 }) ∧
    (arg ≠ 0x0000#16 → exec (.lrcRd arg) s = .next { s with rspV := true, rsp := 0xF0002#20 })

/-- R85: all 16 bits of the expected value take part, so one above 255 is accepted and gives false. -/
def Obligations.LrcChkAnswersTheComparison : Prop :=
  (∀ arg : Word16, encode (.lrcChk arg) = 0x23#8 ++ arg) ∧
  ∀ (arg : Word16) (s : State),
    (s.lrc.setWidth 16 = arg → exec (.lrcChk arg) s = .next { s with rspV := true, rsp := 0x10001#20 }) ∧
    (s.lrc.setWidth 16 ≠ arg → exec (.lrcChk arg) s = .next { s with rspV := true, rsp := 0x10000#20 }) ∧
    (arg.extractLsb' 8 8 ≠ 0x00#8 → exec (.lrcChk arg) s = .next { s with rspV := true, rsp := 0x10000#20 })

/-- R86: the LRC of a concatenation is the exclusive or of the LRCs; the order of elements does not matter; an element given twice
cancels; a message followed by its own LRC gives zero. -/
def Obligations.LrcIsAnExclusiveOrFold : Prop :=
  (∀ d1 d2 : List Byte, computeLRC (d1 ++ d2) = computeLRC d1 ^^^ computeLRC d2) ∧
  (∀ d1 d2 : List Byte, d1.Perm d2 → computeLRC d1 = computeLRC d2) ∧
  (∀ (d : List Byte) (e : Byte), computeLRC (d ++ [e, e]) = computeLRC d) ∧
  (∀ d : List Byte, computeLRC (d ++ [computeLRC d]) = 0x00#8)

/-- R87: as R72 for the LRC; a refused LRC.UPD contributes nothing. -/
def Obligations.LrcCommandsComputeTheLrc : Prop :=
  (∀ (s : State) (ps : List PortSample) (pre : List Instr) (d : List Byte), NoReset ps →
    StartsFresh .lrc (.lrcInit 0x0000#16) pre s →
    (unitCommands .lrc ps).filter writesLrc = pre ++ d.map (fun e => Instr.lrcUpd (e.setWidth 16)) →
    ∃ t rs, runPort ps s = .next (t, rs) ∧ t.lrc = computeLRC d ∧
      exec (.lrcRd 0x0000#16) t = .next { t with rspV := true, rsp := 0x1#4 ++ (computeLRC d).setWidth 16 } ∧
      ∀ x : Word16, exec (.lrcChk x) t = .next
        { t with rspV := true, rsp := if checkLRC d x.toNat then 0x10001#20 else 0x10000#20 }) ∧
  (∀ (s : State) (ps : List PortSample) (d : List Byte), NoReset ps →
    (unitCommands .lrc ps).filter writesLrc = d.map (fun e => Instr.lrcUpd (e.setWidth 16)) →
    ∃ t rs, runPort ps s = .next (t, rs) ∧ t.lrc = s.lrc ^^^ computeLRC d)

/-! ### The packer -/

/-- R91. -/
def Obligations.PkInitDropsPendingBits : Prop :=
  encode (.pkInit 0x0000#16) = 0x300000#24 ∧
  ∀ (arg : Word16) (s : State),
    (arg = 0x0000#16 → exec (.pkInit arg) s = .next { s with pkAcc := 0x00#8, pkN := 0#3, rspV := true, rsp := 0x00000#20 }) ∧
    (arg ≠ 0x0000#16 → exec (.pkInit arg) s = .next { s with rspV := true, rsp := 0xF0002#20 })

/-- R92: the bit goes to position PKN; the eighth of a group emits the byte; an operand other than 0 and 1 is refused. -/
def Obligations.PkBitPlacesOrEmits : Prop :=
  (∀ arg : Word16, encode (.pkBit arg) = 0x31#8 ++ arg) ∧
  ∀ (arg : Word16) (s : State),
    (arg.extractLsb' 1 15 = 0#15 → s.pkN = 7#3 →
      exec (.pkBit arg) s = .next
        { s with
          pkAcc := 0x00#8, pkN := 0#3, rspV := true,
          rsp := 0x1#4 ++ (s.pkAcc ||| ((arg.extractLsb' 0 1).setWidth 8 <<< s.pkN.toNat)).setWidth 16 }) ∧
    (arg.extractLsb' 1 15 = 0#15 → s.pkN ≠ 7#3 →
      exec (.pkBit arg) s = .next
        { s with
          pkAcc := s.pkAcc ||| ((arg.extractLsb' 0 1).setWidth 8 <<< s.pkN.toNat), pkN := s.pkN + 1#3,
          rspV := true, rsp := 0x00000#20 }) ∧
    (arg.extractLsb' 1 15 ≠ 0#15 → exec (.pkBit arg) s = .next { s with rspV := true, rsp := 0xF0002#20 })

/-- R93: nothing is emitted with no bit pending; else the byte as it stands, and the packer is cleared. -/
def Obligations.PkFlushEmitsPendingBits : Prop :=
  encode (.pkFlush 0x0000#16) = 0x320000#24 ∧
  ∀ (arg : Word16) (s : State),
    (arg = 0x0000#16 → s.pkN = 0#3 → exec (.pkFlush arg) s = .next { s with rspV := true, rsp := 0x00000#20 }) ∧
    (arg = 0x0000#16 → s.pkN ≠ 0#3 →
      exec (.pkFlush arg) s = .next
        { s with pkAcc := 0x00#8, pkN := 0#3, rspV := true, rsp := 0x1#4 ++ s.pkAcc.setWidth 16 }) ∧
    (arg ≠ 0x0000#16 → exec (.pkFlush arg) s = .next { s with rspV := true, rsp := 0xF0002#20 })

/-- R90, R95: `packBits(b)` has `ceil(len/8)` bytes (the least `m` with `8m >= len`), and bit `j` of byte `k` is `b[8k + j]`, or 0
beyond the end. -/
def Obligations.PackedBitsStandLeastSignificantFirst : Prop :=
  ∀ b : List Bool,
    b.length ≤ 8 * (packBits b).length ∧ (∀ m, b.length ≤ 8 * m → (packBits b).length ≤ m) ∧
    ∀ (k j : Nat) (y : Byte), (packBits b)[k]? = some y → j < 8 →
      (∀ v, b[8 * k + j]? = some v → y.getLsbD j = v) ∧ (b.length ≤ 8 * k + j → y.getLsbD j = false)

/-- R96: the packer commands of a packing, with any commands of other units and idle edges in between, answer the bytes of
`packBits` in order; which of them answer VAL; and what is pending between commands. -/
def Obligations.PackerCommandsComputePackBits : Prop :=
  (∀ (s : State) (ps : List PortSample) (pre : List Instr) (b : List Bool), NoReset ps →
    StartsFresh .packer (.pkInit 0x0000#16) pre s →
    unitCommands .packer ps = pre ++ b.map (fun v => Instr.pkBit (bitOperand v)) ++ [Instr.pkFlush 0x0000#16] →
    ∃ t rs, runPort ps s = .next (t, rs) ∧
      (unitResponses .packer ps rs).length = pre.length + b.length + 1 ∧
      (unitResponses .packer ps rs).filterMap valByte? = packBits b ∧
      (∀ (n : Nat) (r : RspWord), (unitResponses .packer ps rs)[pre.length + n]? = some r →
        ((valByte? r).isSome = true ↔ (n < b.length ∧ (n + 1) % 8 = 0) ∨ (n = b.length ∧ b.length % 8 ≠ 0))) ∧
      t.pkAcc = 0x00#8 ∧ t.pkN = 0#3) ∧
  (∀ (s : State) (ps : List PortSample) (pre : List Instr) (b : List Bool), NoReset ps →
    StartsFresh .packer (.pkInit 0x0000#16) pre s →
    unitCommands .packer ps = pre ++ b.map (fun v => Instr.pkBit (bitOperand v)) →
    ∃ t rs, runPort ps s = .next (t, rs) ∧ t.pkN.toNat = b.length % 8 ∧
      ∀ j, j < 8 → t.pkAcc.getLsbD j = (decide (j < b.length % 8) && b.getD (8 * (b.length / 8) + j) false))

/-- From a state with the invariants, PK.FLUSH and an emitting PK.BIT leave the packer in its INIT state (70_reset_and_hazards.md R140). -/
def Obligations.EmittingLeavesThePackerInInitState : Prop :=
  ∀ s : State, s.Inv →
    (∃ t, exec (.pkFlush 0x0000#16) s = .next t ∧ t.AgreeOn .packer State.reset) ∧
    (∀ v : Bool, s.pkN = 7#3 → ∃ t, exec (.pkBit (bitOperand v)) s = .next t ∧ t.AgreeOn .packer State.reset)

/-! ### The unpacker -/

/-- R101: in any phase. -/
def Obligations.UpInitStartsABuffer : Prop :=
  encode (.upInit 0x0000#16) = 0x400000#24 ∧
  ∀ (arg : Word16) (s : State),
    (arg = 0x0000#16 → exec (.upInit arg) s = .next
      { s with upPh := .count, upCnt := 0x00#8, upRem := 0x00#8, rspV := true, rsp := 0x00000#20 }) ∧
    (arg ≠ 0x0000#16 → exec (.upInit arg) s = .next { s with rspV := true, rsp := 0xF0002#20 })

/-- R102, phase by phase; in phase DATA for `UPREM >= 1`, as the rule says of that arm and R18 of every run. -/
def Obligations.UpByteTakesTheNextByte : Prop :=
  (∀ arg : Word16, encode (.upByte arg) = 0x41#8 ++ arg) ∧
  ∀ (arg : Word16) (s : State),
    (arg.extractLsb' 8 8 = 0x00#8 → s.upPh = .count →
      exec (.upByte arg) s = .next
        { s with
          upCnt := arg.extractLsb' 0 8, upRem := arg.extractLsb' 0 8,
          upPh := if arg.extractLsb' 0 8 = 0x00#8 then .done else .data, rspV := true, rsp := 0x00000#20 }) ∧
    (arg.extractLsb' 8 8 = 0x00#8 → s.upPh = .data → s.upRem ≠ 0x00#8 →
      exec (.upByte arg) s = .next
        { s with
          upRem := s.upRem - 1#8, upPh := if s.upRem = 0x01#8 then .done else .data,
          rspV := true, rsp := 0x1#4 ++ (arg.extractLsb' 0 8).setWidth 16 }) ∧
    (arg.extractLsb' 8 8 = 0x00#8 → s.upPh = .done →
      exec (.upByte arg) s = .next { s with rspV := true, rsp := 0x00000#20 }) ∧
    (arg.extractLsb' 8 8 ≠ 0x00#8 → exec (.upByte arg) s = .next { s with rspV := true, rsp := 0xF0002#20 })

/-- The corner that R102 leaves out, phase DATA with `UPREM` = 0, which no run from reset meets (R18): that the command completes
there, with the response of the DATA arm and the phase kept, is the model's choice (log entry 8); the new `UPREM` is a free value. -/
def Obligations.UpByteWithNoByteLeftCompletes : Prop :=
  ∀ (arg : Word16) (s : State), arg.extractLsb' 8 8 = 0x00#8 → s.upPh = .data → s.upRem = 0x00#8 →
    ∃ rem : Byte, exec (.upByte arg) s = .next
      { s with upRem := rem, rspV := true, rsp := 0x1#4 ++ (arg.extractLsb' 0 8).setWidth 16 }

/-- R103: a query in every case; BadOperand comes before FormatError (R121). -/
def Obligations.UpEndReportsTheCountOrFormatError : Prop :=
  encode (.upEnd 0x0000#16) = 0x420000#24 ∧
  ∀ (arg : Word16) (s : State),
    (arg = 0x0000#16 → s.upPh = .done →
      exec (.upEnd arg) s = .next { s with rspV := true, rsp := 0x1#4 ++ s.upCnt.setWidth 16 }) ∧
    (arg = 0x0000#16 → s.upPh ≠ .done → exec (.upEnd arg) s = .next { s with rspV := true, rsp := 0xF0003#20 }) ∧
    (arg ≠ 0x0000#16 → exec (.upEnd arg) s = .next { s with rspV := true, rsp := 0xF0002#20 })

/-- R100, R106: `unpackBits` fails with FormatError on a buffer shorter than `1 + byteCount` (an empty one too); on every other
buffer it succeeds, with `8 * byteCount` bits, at most 2040, bit `8k + j` being bit `j` of byte `k` after the count; a zero count
gives no bits. -/
def Obligations.UnpackBitsDecodesExactlyTheDeclaredBytes : Prop :=
  unpackBits [] = .error .formatError ∧
  (∀ rest : List Byte, unpackBits (0x00#8 :: rest) = .ok ([], 0x00#8)) ∧
  (∀ (y0 : Byte) (ys : List Byte), ys.length < y0.toNat → unpackBits (y0 :: ys) = .error .formatError) ∧
  (∀ (y0 : Byte) (ys : List Byte), y0.toNat ≤ ys.length →
    ∃ bits : List Bool, unpackBits (y0 :: ys) = .ok (bits, y0) ∧ bits.length = 8 * y0.toNat ∧ bits.length ≤ 2040 ∧
      ∀ (k j : Nat) (y : Byte), k < y0.toNat → j < 8 → ys[k]? = some y → bits[8 * k + j]? = some (y.getLsbD j))

/-- R107: the round trip with the packer, the count byte `m = ceil(len(b)/8)` put in front by the host. -/
def Obligations.UnpackingPackedBitsRecoversThem : Prop :=
  ∀ b : List Bool, b.length ≤ 2040 →
    unpackBits (BitVec.ofNat 8 (ceilDiv8 b.length) :: packBits b) =
      .ok (b ++ List.replicate (8 * ceilDiv8 b.length - b.length) false, BitVec.ofNat 8 (ceilDiv8 b.length))

/-- R108: the unpacker commands of a buffer, with any commands of other units and idle edges in between, answer as `unpackBits` says:
FormatError where it fails; else an ACK for the count byte, VAL for each declared byte, ACK for each byte beyond, and the count; and
the registers after each byte. -/
def Obligations.UnpackerCommandsComputeUnpackBits : Prop :=
  (∀ (s : State) (ps : List PortSample) (pre : List Instr) (buf : List Byte), NoReset ps →
    StartsFresh .unpacker (.upInit 0x0000#16) pre s →
    unitCommands .unpacker ps = pre ++ buf.map (fun y => Instr.upByte (y.setWidth 16)) ++ [Instr.upEnd 0x0000#16] →
    ∃ t rs, runPort ps s = .next (t, rs) ∧
      (∀ e, unpackBits buf = .error e → (unitResponses .unpacker ps rs).getLast? = some 0xF0003#20) ∧
      (∀ bits n, unpackBits buf = .ok (bits, n) →
        unitResponses .unpacker ps rs =
          pre.map (fun _ => 0x00000#20) ++ [0x00000#20] ++
          (buf.tail.take n.toNat).map (fun y => 0x1#4 ++ y.setWidth 16) ++
          List.replicate (buf.tail.length - n.toNat) 0x00000#20 ++ [0x1#4 ++ n.setWidth 16] ∧
        ((unitResponses .unpacker ps rs).dropLast.filterMap valByte?).flatMap byteBits = bits)) ∧
  (∀ (s : State) (ps : List PortSample) (pre : List Instr) (y0 : Byte) (ys : List Byte), NoReset ps →
    StartsFresh .unpacker (.upInit 0x0000#16) pre s →
    unitCommands .unpacker ps = pre ++ (y0 :: ys).map (fun y => Instr.upByte (y.setWidth 16)) →
    ∃ t rs, runPort ps s = .next (t, rs) ∧ t.upCnt = y0 ∧ t.upRem.toNat = y0.toNat - ys.length ∧
      t.upPh = if y0.toNat ≤ ys.length then .done else .data)

/-! ### Errors -/

/-- R115: raising writes no architectural register and answers `{0xF, code}`; and at every edge whose response is an error the seven
registers are what they were. -/
def Obligations.ErrorsChangeNoRegister : Prop :=
  (∀ (e : CmdError) (s : State), raise e s = .next { s with rspV := true, rsp := 0xF#4 ++ e.code }) ∧
  (∀ s t : State, step s = .next t → rspKind t.rsp = 0xF#4 → t.rspV = true ∧ s.SameRegs t)

/-- R116, R117, R119, R120, R121: each error code is answered exactly for its cause, in the order IllegalOpcode, BadOperand,
FormatError, and no other code is answered. -/
def Obligations.EachErrorHasExactlyItsCause : Prop :=
  ∀ (w : CmdWord) (s t : State), execWord w s = .next t →
    (t.rsp = 0xF0001#20 ↔ ∃ r, decode w = .error r) ∧
    (t.rsp = 0xF0002#20 ↔ ∃ i, decode w = .ok i ∧ i.arg &&& i.format.mustBeZero ≠ 0x0000#16) ∧
    (t.rsp = 0xF0003#20 ↔ w = 0x420000#24 ∧ s.upPh ≠ .done) ∧
    (rspKind t.rsp = 0xF#4 → t.rsp = 0xF0001#20 ∨ t.rsp = 0xF0002#20 ∨ t.rsp = 0xF0003#20)

/-- R122: errors are not sticky; after an error the next command runs exactly as it would have run before it. -/
def Obligations.ErrorsAreNotSticky : Prop :=
  ∀ (w v : CmdWord) (s t : State), execWord w s = .next t → rspKind t.rsp = 0xF#4 → execWord v t = execWord v s

/-- R47, R116: after every edge, from any state, the response port shows ACK with `val` 0, a VAL, or an ERR with one of the three codes,
or is idle with the zero word (R24). -/
def Obligations.EveryResponseIsLegal : Prop :=
  ∀ s t : State, step s = .next t → t.PortLegal

/-! ### The whole machine -/

/-- R18: every step keeps the invariants, whatever the host drives; so they hold after reset and after every command that follows, from
any state whatever before the reset. -/
def Obligations.RegisterInvariantsAreKept : Prop :=
  (∀ s t : State, s.Inv → step s = .next t → t.Inv) ∧
  (∀ (s : State) (p : PortSample) (ps : List PortSample), p.rst = true →
    ∃ t rs, runPort (p :: ps) s = .next (t, rs) ∧ t.Inv)

/-- R18, R26: the invariants hold after reset, from any state whatever. -/
def Obligations.ResetMeetsTheInvariants : Prop :=
  State.reset.Inv ∧ ∀ (s : State) (p : PortSample) (ps : List PortSample), s.inputs = p :: ps → p.rst = true →
    ∃ t, step s = .next t ∧ t.Inv

/-- R8: neither `PKN + 1` nor `UPREM - 1` wraps. Where PK.BIT takes `PKN` from 7 to 0 it adds nothing: it emits the byte and clears
the packer (R92). -/
def Obligations.CountersNeverWrap : Prop :=
  (∀ (arg : Word16) (s t : State), exec (.pkBit arg) s = .next t → t.pkN ≠ s.pkN →
    (s.pkN.toNat ≤ 6 ∧ t.pkN.toNat = s.pkN.toNat + 1) ∨
    (s.pkN = 7#3 ∧ t.pkN = 0#3 ∧ t.pkAcc = 0x00#8 ∧ t.rspV = true ∧ rspKind t.rsp = 0x1#4)) ∧
  (∀ (arg : Word16) (s t : State), s.Inv → s.upPh = .data → exec (.upByte arg) s = .next t → t.upRem ≠ s.upRem →
    1 ≤ s.upRem.toNat ∧ t.upRem.toNat + 1 = s.upRem.toNat)

/-- R2: "a command of one unit reads and writes the state of that unit only": the other units' registers stay, and the unit's new
registers and the response depend on the unit's own registers only. -/
def Obligations.CommandsTouchOnlyTheirUnit : Prop :=
  (∀ (i : Instr) (s t : State) (u : FuncUnit), exec i s = .next t → u ≠ i.unit → s.AgreeOn u t) ∧
  (∀ (i : Instr) (s t s' t' : State), s.AgreeOn i.unit s' → exec i s = .next t → exec i s' = .next t' →
    t.AgreeOn i.unit t' ∧ t.rsp = t'.rsp)

/-- R37: CRC.RD, CRC.CHK, LRC.RD, LRC.CHK and UP.END write no register, and answer the same again as long as no other command of the
same unit comes between. -/
def Obligations.QueriesWriteNothingAndRepeat : Prop :=
  ∀ (i : Instr) (s t : State),
    (∃ a, i = .crcRd a ∨ i = .crcChk a ∨ i = .lrcRd a ∨ i = .lrcChk a ∨ i = .upEnd a) → exec i s = .next t →
    s.SameRegs t ∧
    ∀ ps, NoReset ps → unitCommands i.unit ps = [] →
      ∃ u rs v, runPort ps t = .next (u, rs) ∧ exec i u = .next v ∧ v.rsp = t.rsp

/-- Isolation of the units over whole runs (R2, D32; R150): two drives with the same commands for one unit, whatever they hold for the
other units and whatever idle edges, from states that agree on that unit's registers, leave the unit's registers the same and give
its commands the same responses. -/
def Obligations.UnitsAreIsolatedOverWholeRuns : Prop :=
  ∀ (u : FuncUnit) (s s' : State) (ps qs : List PortSample), NoReset ps → NoReset qs →
    s.AgreeOn u s' → unitCommands u ps = unitCommands u qs →
    ∃ t rs t' rs', runPort ps s = .next (t, rs) ∧ runPort qs s' = .next (t', rs') ∧
      t.AgreeOn u t' ∧ unitResponses u ps rs = unitResponses u qs rs'

/-- R3, R57: for each of the six macros, from any state, the result read from the responses of its expansion is the reference
function's value. -/
def Obligations.MacrosComputeTheReferenceFunctions : Prop :=
  ∀ (m : Macro) (s : State), ∃ t rs,
    runPort (m.expand.map PortSample.ofInstr) s = .next (t, rs.map some) ∧ m.result rs = m.reference
end

