-- ==== Sys2Proof/Laws/CrcTable.lean ====
section
/-! SUPPORT. One round of table generation, and the table's first entry (10_state.md R10). -/

namespace Sys2Proof.Machine

/-- A round is a shift, with the polynomial exclusive-ored in when the low bit is set. -/
theorem tableRound_eq (c : Word16) :
    tableRound c = (c >>> 1) ^^^ (if c.getLsbD 0 then Config.poly else 0) := by
  unfold tableRound
  split <;> simp

/-- A round is linear over exclusive or. -/
theorem tableRound_xor (a b : Word16) : tableRound (a ^^^ b) = tableRound a ^^^ tableRound b := by
  simp only [tableRound_eq, BitVec.getLsbD_xor, BitVec.ushiftRight_xor_distrib]
  have hp : (if (a.getLsbD 0 ^^ b.getLsbD 0) then Config.poly else 0) =
      (if a.getLsbD 0 then Config.poly else 0) ^^^ (if b.getLsbD 0 then Config.poly else 0) := by
    cases a.getLsbD 0 <;> cases b.getLsbD 0 <;> decide
  rw [hp]
  ac_rfl

@[simp] theorem crcTable_zero : crcTable 0#8 = 0#16 := by decide

/-- An element equal to the CRC's low byte leaves the high byte (40_crc16.md R70). -/
theorem crcFold_lowByte (c : Word16) : crcFold c (c.extractLsb' 0 8) = (c.extractLsb' 8 8).setWidth 16 := by
  simp [crcFold]

end Sys2Proof.Machine
end

