-- ==== Sys2Proof/Laws/Decode.lean ====
section
/-! SUPPORT. The fields of an encoded command (30_encoding.md R45). -/

namespace Sys2Proof

@[simp] theorem opField_append (op : Byte) (arg : Word16) : opField (op ++ arg) = op :=
  BitVec.extractLsb'_append_eq_left

@[simp] theorem argField_append (op : Byte) (arg : Word16) : argField (op ++ arg) = arg :=
  BitVec.extractLsb'_append_eq_right

/-- A word is its two fields. -/
theorem word_split (w : CmdWord) : w = opField w ++ argField w := by
  apply BitVec.eq_of_getLsbD_eq
  intro k hk
  show _ = (opField w ++ argField w).getLsbD k
  rw [BitVec.getLsbD_append]
  simp only [opField, argField, BitVec.getLsbD_extractLsb']
  by_cases h : k < 16
  · simp [h]
  · simp [h, show 16 + (k-16) = k by omega, show k - 16 < 8 by omega]

/-- The opcode map's mask keeps the opcode field (R50). -/
theorem word_masked (w : CmdWord) : w &&& 0xFF0000#24 = opField w ++ 0#16 := by
  apply BitVec.eq_of_getLsbD_eq
  intro k hk
  show _ = (opField w ++ 0#16).getLsbD k
  have hm : 0xFF0000#24 = 0xFF#8 ++ 0#16 := by decide
  rw [BitVec.getLsbD_append, BitVec.getLsbD_and, hm]
  show (w.getLsbD k && (0xFF#8 ++ 0#16).getLsbD k) = _
  have ha : 0xFF#8 = BitVec.allOnes 8 := by decide
  rw [BitVec.getLsbD_append, ha]
  simp only [opField, BitVec.getLsbD_extractLsb', BitVec.getLsbD_allOnes]
  by_cases h : k < 16
  · simp [h]
  · simp [h, show 16 + (k-16) = k by omega, show k - 16 < 8 by omega]

/-- A row of the map is selected by the opcode alone (R50). -/
theorem selects_iff (r : OpRow) (w : CmdWord) (op : Byte) (h1 : r.mask = 0xFF0000#24) (h2 : r.pattern = op ++ 0#16) :
    r.selects w = decide (opField w = op) := by
  rw [OpRow.selects, h1, h2, word_masked, ← Bool.beq_eq_decide_eq, Bool.eq_iff_iff, beq_iff_eq, beq_iff_eq]
  exact ⟨fun h => by simpa using congrArg opField h, fun h => by rw [h]⟩

/-- Decoding, row by row. -/
theorem decode_eq (w : CmdWord) : decode w =
   if opField w = 0x10#8 then .ok (.crcInit (argField w)) else
   if opField w = 0x11#8 then .ok (.crcUpd (argField w)) else
   if opField w = 0x12#8 then .ok (.crcRd (argField w)) else
   if opField w = 0x13#8 then .ok (.crcChk (argField w)) else
   if opField w = 0x20#8 then .ok (.lrcInit (argField w)) else
   if opField w = 0x21#8 then .ok (.lrcUpd (argField w)) else
   if opField w = 0x22#8 then .ok (.lrcRd (argField w)) else
   if opField w = 0x23#8 then .ok (.lrcChk (argField w)) else
   if opField w = 0x30#8 then .ok (.pkInit (argField w)) else
   if opField w = 0x31#8 then .ok (.pkBit (argField w)) else
   if opField w = 0x32#8 then .ok (.pkFlush (argField w)) else
   if opField w = 0x40#8 then .ok (.upInit (argField w)) else
   if opField w = 0x41#8 then .ok (.upByte (argField w)) else
   if opField w = 0x42#8 then .ok (.upEnd (argField w)) else
   .error (.illegalOpcode (opField w)) := by
  unfold decode opcodeMap
  simp only [List.cons_append, List.nil_append, List.find?]
  rw [selects_iff _ w 0x10#8 rfl rfl, selects_iff _ w 0x11#8 rfl rfl, selects_iff _ w 0x12#8 rfl rfl, selects_iff _ w 0x13#8 rfl rfl, selects_iff _ w 0x20#8 rfl rfl, selects_iff _ w 0x21#8 rfl rfl, selects_iff _ w 0x22#8 rfl rfl, selects_iff _ w 0x23#8 rfl rfl, selects_iff _ w 0x30#8 rfl rfl, selects_iff _ w 0x31#8 rfl rfl, selects_iff _ w 0x32#8 rfl rfl, selects_iff _ w 0x40#8 rfl rfl, selects_iff _ w 0x41#8 rfl rfl, selects_iff _ w 0x42#8 rfl rfl]
  generalize opField w = o
  generalize argField w = a
  by_cases h0 : o = 0x10#8
  · subst h0; rfl
  by_cases h1 : o = 0x11#8
  · subst h1; rfl
  by_cases h2 : o = 0x12#8
  · subst h2; rfl
  by_cases h3 : o = 0x13#8
  · subst h3; rfl
  by_cases h4 : o = 0x20#8
  · subst h4; rfl
  by_cases h5 : o = 0x21#8
  · subst h5; rfl
  by_cases h6 : o = 0x22#8
  · subst h6; rfl
  by_cases h7 : o = 0x23#8
  · subst h7; rfl
  by_cases h8 : o = 0x30#8
  · subst h8; rfl
  by_cases h9 : o = 0x31#8
  · subst h9; rfl
  by_cases h10 : o = 0x32#8
  · subst h10; rfl
  by_cases h11 : o = 0x40#8
  · subst h11; rfl
  by_cases h12 : o = 0x41#8
  · subst h12; rfl
  by_cases h13 : o = 0x42#8
  · subst h13; rfl
  simp only [h0, h1, h2, h3, h4, h5, h6, h7, h8, h9, h10, h11, h12, h13, decide_false, if_false]

end Sys2Proof
end

