-- ==== Sys2Proof/Laws/State.lean ====
section
/-! SUPPORT. One lemma per field per update of State, each true by rfl. -/

namespace Sys2Proof.Machine

@[simp] theorem latch_crc (r : Response) (s : State) : (latch r s).crc = s.crc := rfl
@[simp] theorem latch_lrc (r : Response) (s : State) : (latch r s).lrc = s.lrc := rfl
@[simp] theorem latch_pkAcc (r : Response) (s : State) : (latch r s).pkAcc = s.pkAcc := rfl
@[simp] theorem latch_pkN (r : Response) (s : State) : (latch r s).pkN = s.pkN := rfl
@[simp] theorem latch_upPh (r : Response) (s : State) : (latch r s).upPh = s.upPh := rfl
@[simp] theorem latch_upCnt (r : Response) (s : State) : (latch r s).upCnt = s.upCnt := rfl
@[simp] theorem latch_upRem (r : Response) (s : State) : (latch r s).upRem = s.upRem := rfl
@[simp] theorem latch_rspV (r : Response) (s : State) : (latch r s).rspV = true := rfl
@[simp] theorem latch_rsp (r : Response) (s : State) : (latch r s).rsp = r.word := rfl
@[simp] theorem latch_inputs (r : Response) (s : State) : (latch r s).inputs = s.inputs := rfl

@[simp] theorem resetEdge_crc (s : State) : (resetEdge s).crc = 0xFFFF#16 := rfl
@[simp] theorem resetEdge_lrc (s : State) : (resetEdge s).lrc = 0x00#8 := rfl
@[simp] theorem resetEdge_pkAcc (s : State) : (resetEdge s).pkAcc = 0x00#8 := rfl
@[simp] theorem resetEdge_pkN (s : State) : (resetEdge s).pkN = 0#3 := rfl
@[simp] theorem resetEdge_upPh (s : State) : (resetEdge s).upPh = .count := rfl
@[simp] theorem resetEdge_upCnt (s : State) : (resetEdge s).upCnt = 0x00#8 := rfl
@[simp] theorem resetEdge_upRem (s : State) : (resetEdge s).upRem = 0x00#8 := rfl
@[simp] theorem resetEdge_rspV (s : State) : (resetEdge s).rspV = false := rfl
@[simp] theorem resetEdge_rsp (s : State) : (resetEdge s).rsp = 0x00000#20 := rfl
@[simp] theorem resetEdge_inputs (s : State) : (resetEdge s).inputs = s.inputs := rfl

@[simp] theorem idleEdge_crc (s : State) : (idleEdge s).crc = s.crc := rfl
@[simp] theorem idleEdge_lrc (s : State) : (idleEdge s).lrc = s.lrc := rfl
@[simp] theorem idleEdge_pkAcc (s : State) : (idleEdge s).pkAcc = s.pkAcc := rfl
@[simp] theorem idleEdge_pkN (s : State) : (idleEdge s).pkN = s.pkN := rfl
@[simp] theorem idleEdge_upPh (s : State) : (idleEdge s).upPh = s.upPh := rfl
@[simp] theorem idleEdge_upCnt (s : State) : (idleEdge s).upCnt = s.upCnt := rfl
@[simp] theorem idleEdge_upRem (s : State) : (idleEdge s).upRem = s.upRem := rfl
@[simp] theorem idleEdge_rspV (s : State) : (idleEdge s).rspV = false := rfl
@[simp] theorem idleEdge_rsp (s : State) : (idleEdge s).rsp = 0x00000#20 := rfl
@[simp] theorem idleEdge_inputs (s : State) : (idleEdge s).inputs = s.inputs := rfl

@[simp] theorem clearPacker_crc (s : State) : (clearPacker s).crc = s.crc := rfl
@[simp] theorem clearPacker_lrc (s : State) : (clearPacker s).lrc = s.lrc := rfl
@[simp] theorem clearPacker_pkAcc (s : State) : (clearPacker s).pkAcc = 0x00#8 := rfl
@[simp] theorem clearPacker_pkN (s : State) : (clearPacker s).pkN = 0#3 := rfl
@[simp] theorem clearPacker_upPh (s : State) : (clearPacker s).upPh = s.upPh := rfl
@[simp] theorem clearPacker_upCnt (s : State) : (clearPacker s).upCnt = s.upCnt := rfl
@[simp] theorem clearPacker_upRem (s : State) : (clearPacker s).upRem = s.upRem := rfl
@[simp] theorem clearPacker_rspV (s : State) : (clearPacker s).rspV = s.rspV := rfl
@[simp] theorem clearPacker_rsp (s : State) : (clearPacker s).rsp = s.rsp := rfl
@[simp] theorem clearPacker_inputs (s : State) : (clearPacker s).inputs = s.inputs := rfl

@[simp] theorem takeCount_crc (y : Byte) (s : State) : (takeCount y s).crc = s.crc := rfl
@[simp] theorem takeCount_lrc (y : Byte) (s : State) : (takeCount y s).lrc = s.lrc := rfl
@[simp] theorem takeCount_pkAcc (y : Byte) (s : State) : (takeCount y s).pkAcc = s.pkAcc := rfl
@[simp] theorem takeCount_pkN (y : Byte) (s : State) : (takeCount y s).pkN = s.pkN := rfl
@[simp] theorem takeCount_upPh (y : Byte) (s : State) : (takeCount y s).upPh = if y = 0x00#8 then .done else .data := rfl
@[simp] theorem takeCount_upCnt (y : Byte) (s : State) : (takeCount y s).upCnt = y := rfl
@[simp] theorem takeCount_upRem (y : Byte) (s : State) : (takeCount y s).upRem = y := rfl
@[simp] theorem takeCount_rspV (y : Byte) (s : State) : (takeCount y s).rspV = s.rspV := rfl
@[simp] theorem takeCount_rsp (y : Byte) (s : State) : (takeCount y s).rsp = s.rsp := rfl
@[simp] theorem takeCount_inputs (y : Byte) (s : State) : (takeCount y s).inputs = s.inputs := rfl

@[simp] theorem takeData_crc (y : Byte) (s : State) : (takeData y s).crc = s.crc := rfl
@[simp] theorem takeData_lrc (y : Byte) (s : State) : (takeData y s).lrc = s.lrc := rfl
@[simp] theorem takeData_pkAcc (y : Byte) (s : State) : (takeData y s).pkAcc = s.pkAcc := rfl
@[simp] theorem takeData_pkN (y : Byte) (s : State) : (takeData y s).pkN = s.pkN := rfl
@[simp] theorem takeData_upPh (y : Byte) (s : State) : (takeData y s).upPh = if s.upRem = 0x01#8 then .done else s.upPh := rfl
@[simp] theorem takeData_upCnt (y : Byte) (s : State) : (takeData y s).upCnt = s.upCnt := rfl
@[simp] theorem takeData_upRem (y : Byte) (s : State) : (takeData y s).upRem = countDown s y := rfl
@[simp] theorem takeData_rspV (y : Byte) (s : State) : (takeData y s).rspV = s.rspV := rfl
@[simp] theorem takeData_rsp (y : Byte) (s : State) : (takeData y s).rsp = s.rsp := rfl
@[simp] theorem takeData_inputs (y : Byte) (s : State) : (takeData y s).inputs = s.inputs := rfl

@[simp] theorem presentWord_crc (w : CmdWord) (s : State) : (presentWord w s).crc = s.crc := rfl
@[simp] theorem presentWord_lrc (w : CmdWord) (s : State) : (presentWord w s).lrc = s.lrc := rfl
@[simp] theorem presentWord_pkAcc (w : CmdWord) (s : State) : (presentWord w s).pkAcc = s.pkAcc := rfl
@[simp] theorem presentWord_pkN (w : CmdWord) (s : State) : (presentWord w s).pkN = s.pkN := rfl
@[simp] theorem presentWord_upPh (w : CmdWord) (s : State) : (presentWord w s).upPh = s.upPh := rfl
@[simp] theorem presentWord_upCnt (w : CmdWord) (s : State) : (presentWord w s).upCnt = s.upCnt := rfl
@[simp] theorem presentWord_upRem (w : CmdWord) (s : State) : (presentWord w s).upRem = s.upRem := rfl
@[simp] theorem presentWord_rspV (w : CmdWord) (s : State) : (presentWord w s).rspV = s.rspV := rfl
@[simp] theorem presentWord_rsp (w : CmdWord) (s : State) : (presentWord w s).rsp = s.rsp := rfl
@[simp] theorem presentWord_inputs (w : CmdWord) (s : State) : (presentWord w s).inputs = .command w :: s.inputs := rfl
@[simp] theorem reset_crc : State.reset.crc = 0xFFFF#16 := rfl
@[simp] theorem reset_lrc : State.reset.lrc = 0x00#8 := rfl
@[simp] theorem reset_pkAcc : State.reset.pkAcc = 0x00#8 := rfl
@[simp] theorem reset_pkN : State.reset.pkN = 0#3 := rfl
@[simp] theorem reset_upPh : State.reset.upPh = .count := rfl
@[simp] theorem reset_upCnt : State.reset.upCnt = 0x00#8 := rfl
@[simp] theorem reset_upRem : State.reset.upRem = 0x00#8 := rfl
@[simp] theorem reset_rspV : State.reset.rspV = false := rfl
@[simp] theorem reset_rsp : State.reset.rsp = 0x00000#20 := rfl
@[simp] theorem reset_inputs : State.reset.inputs = [] := rfl

end Sys2Proof.Machine
end

