-- ==== Sys2Proof/Laws/Ops.lean ====
section
/-! SUPPORT. What the shared operations can do: responses, raising, the operand check, reading the port word back. -/

namespace Sys2Proof.Machine

/-- A response ends the command in exactly one next state. -/
theorem respond_next {r : Response} {s t : State} (h : respond r s = .next t) : t = latch r s := by
  cases h; rfl

/-- Raising writes nothing but the response port (R115). -/
theorem raise_next {e : CmdError} {s t : State} (h : raise e s = .next t) : t = latch (.err e) s :=
  respond_next h

/-- A legal operand lets the command's own rule answer. -/
theorem checkOperand_of_legal {fmt : Format} {arg : Word16} {s : State} {ok : Result} (h : operandLegal fmt arg = true) :
    checkOperand fmt arg s ok = ok := by
  simp [checkOperand, h]

/-- An illegal operand raises BadOperand. -/
theorem checkOperand_of_illegal {fmt : Format} {arg : Word16} {s : State} {ok : Result} (h : operandLegal fmt arg = false) :
    checkOperand fmt arg s ok = .next (latch (.err .badOperand) s) := by
  simp [checkOperand, h, raise, respond]

/-- Everything the operand check can do. -/
theorem checkOperand_next {fmt : Format} {arg : Word16} {s t : State} {ok : Result}
    (h : checkOperand fmt arg s ok = .next t) :
    (operandLegal fmt arg = true ∧ ok = .next t) ∨
    (operandLegal fmt arg = false ∧ t = latch (.err .badOperand) s) := by
  cases hl : operandLegal fmt arg
  · rw [checkOperand_of_illegal hl] at h
    exact .inr ⟨rfl, by cases h; rfl⟩
  · rw [checkOperand_of_legal hl] at h
    exact .inl ⟨rfl, h⟩

/-- The response kinds are told apart (R47). -/
@[simp] theorem rspKind_ack : rspKind (Response.word .ack) = 0x0#4 := by decide

@[simp] theorem rspKind_val (v : Word16) : rspKind (Response.word (.val v)) = 0x1#4 :=
  BitVec.extractLsb'_append_eq_left

@[simp] theorem rspKind_err (e : CmdError) : rspKind (Response.word (.err e)) = 0xF#4 := by
  cases e <;> decide

/-- A result is read back from the response that carries it. -/
@[simp] theorem rspVal_val (v : Word16) : rspVal (Response.word (.val v)) = v :=
  BitVec.extractLsb'_append_eq_right

@[simp] theorem rspVal_err (e : CmdError) : rspVal (Response.word (.err e)) = e.code := by
  cases e <;> decide

end Sys2Proof.Machine
end

