-- ==== Sys2Proof/Laws/Operands.lean ====
section
/-! SUPPORT. The operand check of the machine, format by format, and that it is well-formedness (30_encoding.md R48, R52). -/

namespace Sys2Proof.Machine

@[simp] theorem operandLegal_z (arg : Word16) : operandLegal .z arg = (arg == 0#16) := rfl

@[simp] theorem operandLegal_w (arg : Word16) : operandLegal .w arg = true := rfl

@[simp] theorem operandLegal_b (arg : Word16) : operandLegal .b arg = (arg.extractLsb' 8 8 == 0#8) := rfl

@[simp] theorem operandLegal_f (arg : Word16) : operandLegal .f arg = (arg.extractLsb' 1 15 == 0#15) := rfl

/-- The slice `arg[15:8]` is zero exactly when the mask of format B leaves nothing. -/
theorem highByte_zero_iff (arg : Word16) : arg.extractLsb' 8 8 = 0#8 ↔ arg &&& 0xFF00#16 = 0#16 := by
  have hm : arg &&& 0xFF00#16 = (arg.extractLsb' 8 8).setWidth 16 <<< 8 := by
    ext k hk
    have h16 : 0xFF00#16 = BitVec.allOnes 16 <<< 8 := by decide
    rw [h16]
    simp only [BitVec.getElem_and, BitVec.getElem_shiftLeft, BitVec.getElem_allOnes, BitVec.getElem_setWidth,
      BitVec.getLsbD_extractLsb']
    by_cases h8 : k < 8
    · simp [h8]
    · have : 8 + (k - 8) = k := by omega
      simp [h8, show k - 8 < 8 by omega, this, BitVec.getLsbD_eq_getElem hk]
  rw [hm]
  constructor
  · intro h; simp [h]
  · intro h
    ext k hk
    have := congrArg (BitVec.getLsbD · (k + 8)) h
    simpa [hk, show k + 8 < 16 by omega] using this

/-- The slice `arg[15:1]` is zero exactly when the mask of format F leaves nothing. -/
theorem highBits_zero_iff (arg : Word16) : arg.extractLsb' 1 15 = 0#15 ↔ arg &&& 0xFFFE#16 = 0#16 := by
  have hm : arg &&& 0xFFFE#16 = (arg.extractLsb' 1 15).setWidth 16 <<< 1 := by
    ext k hk
    have h16 : 0xFFFE#16 = BitVec.allOnes 16 <<< 1 := by decide
    rw [h16]
    simp only [BitVec.getElem_and, BitVec.getElem_shiftLeft, BitVec.getElem_allOnes, BitVec.getElem_setWidth,
      BitVec.getLsbD_extractLsb']
    by_cases h1 : k < 1
    · simp [h1]
    · have : 1 + (k - 1) = k := by omega
      simp [h1, show k - 1 < 15 by omega, this, BitVec.getLsbD_eq_getElem hk]
  rw [hm]
  constructor
  · intro h; simp [h]
  · intro h
    ext k hk
    have := congrArg (BitVec.getLsbD · (k + 1)) h
    simpa [hk, show k + 1 < 16 by omega] using this

/-- The machine's check of a command's operand is well-formedness. -/
theorem operandLegal_eq_wf (i : Instr) : operandLegal i.format i.arg = i.wf := by
  have hz : ∀ a : Word16, a &&& 0xFFFF#16 = a := fun a => by
    have : 0xFFFF#16 = BitVec.allOnes 16 := by decide
    rw [this, BitVec.and_allOnes]
  have hw : ∀ a : Word16, a &&& 0x0000#16 = 0x0000#16 := fun a => BitVec.and_zero
  cases i <;>
    simp only [Instr.format, Instr.arg, Instr.wf, Format.mustBeZero, operandLegal_z, operandLegal_w, operandLegal_b,
      operandLegal_f, hz, hw, beq_self_eq_true, beq_eq_beq, highByte_zero_iff, highBits_zero_iff]

end Sys2Proof.Machine
end

