-- ==== Sys2Proof/Laws/Exec.lean ====
section
/-! SUPPORT. One inversion lemma per meaning: everything it can do when it answers a next state. -/

namespace Sys2Proof.Machine

theorem execCrcInit_next {arg : Word16} {s t : State} (h : execCrcInit arg s = .next t) :
    (arg = 0#16 ∧ t = latch .ack { s with crc := Config.seed }) ∨ (arg ≠ 0#16 ∧ t = latch (.err .badOperand) s) := by
  obtain ⟨hl, h⟩ | ⟨hl, h⟩ := checkOperand_next h
  · exact .inl ⟨by simpa using hl, respond_next h⟩
  · exact .inr ⟨by simpa using hl, h⟩

theorem execCrcUpd_next {arg : Word16} {s t : State} (h : execCrcUpd arg s = .next t) :
    t = latch .ack { s with crc := crcFold s.crc (argByte arg) } := by
  obtain ⟨-, h⟩ | ⟨hl, -⟩ := checkOperand_next h
  · exact respond_next h
  · simp at hl

theorem execCrcRd_next {arg : Word16} {s t : State} (h : execCrcRd arg s = .next t) :
    (arg = 0#16 ∧ t = latch (.val s.crc) s) ∨ (arg ≠ 0#16 ∧ t = latch (.err .badOperand) s) := by
  obtain ⟨hl, h⟩ | ⟨hl, h⟩ := checkOperand_next h
  · exact .inl ⟨by simpa using hl, respond_next h⟩
  · exact .inr ⟨by simpa using hl, h⟩

theorem execCrcChk_next {arg : Word16} {s t : State} (h : execCrcChk arg s = .next t) :
    t = latch (.val (boolVal (s.crc == arg))) s := by
  obtain ⟨-, h⟩ | ⟨hl, -⟩ := checkOperand_next h
  · exact respond_next h
  · simp at hl

theorem execLrcInit_next {arg : Word16} {s t : State} (h : execLrcInit arg s = .next t) :
    (arg = 0#16 ∧ t = latch .ack { s with lrc := Config.lrcSeed }) ∨ (arg ≠ 0#16 ∧ t = latch (.err .badOperand) s) := by
  obtain ⟨hl, h⟩ | ⟨hl, h⟩ := checkOperand_next h
  · exact .inl ⟨by simpa using hl, respond_next h⟩
  · exact .inr ⟨by simpa using hl, h⟩

theorem execLrcUpd_next {arg : Word16} {s t : State} (h : execLrcUpd arg s = .next t) :
    (arg.extractLsb' 8 8 = 0#8 ∧ t = latch .ack { s with lrc := s.lrc ^^^ argByte arg }) ∨
    (arg.extractLsb' 8 8 ≠ 0#8 ∧ t = latch (.err .badOperand) s) := by
  obtain ⟨hl, h⟩ | ⟨hl, h⟩ := checkOperand_next h
  · exact .inl ⟨by simpa using hl, respond_next h⟩
  · exact .inr ⟨by simpa using hl, h⟩

theorem execLrcRd_next {arg : Word16} {s t : State} (h : execLrcRd arg s = .next t) :
    (arg = 0#16 ∧ t = latch (.val (s.lrc.setWidth 16)) s) ∨ (arg ≠ 0#16 ∧ t = latch (.err .badOperand) s) := by
  obtain ⟨hl, h⟩ | ⟨hl, h⟩ := checkOperand_next h
  · exact .inl ⟨by simpa using hl, respond_next h⟩
  · exact .inr ⟨by simpa using hl, h⟩

theorem execLrcChk_next {arg : Word16} {s t : State} (h : execLrcChk arg s = .next t) :
    t = latch (.val (boolVal (s.lrc.setWidth 16 == arg))) s := by
  obtain ⟨-, h⟩ | ⟨hl, -⟩ := checkOperand_next h
  · exact respond_next h
  · simp at hl

theorem execPkInit_next {arg : Word16} {s t : State} (h : execPkInit arg s = .next t) :
    (arg = 0#16 ∧ t = latch .ack (clearPacker s)) ∨ (arg ≠ 0#16 ∧ t = latch (.err .badOperand) s) := by
  obtain ⟨hl, h⟩ | ⟨hl, h⟩ := checkOperand_next h
  · exact .inl ⟨by simpa using hl, respond_next h⟩
  · exact .inr ⟨by simpa using hl, h⟩

theorem execPkBit_next {arg : Word16} {s t : State} (h : execPkBit arg s = .next t) :
    (arg.extractLsb' 1 15 = 0#15 ∧ s.pkN = 7#3 ∧
      t = latch (.val ((placeBit s.pkAcc s.pkN (argBit arg)).setWidth 16)) (clearPacker s)) ∨
    (arg.extractLsb' 1 15 = 0#15 ∧ s.pkN ≠ 7#3 ∧
      t = latch .ack { s with pkAcc := placeBit s.pkAcc s.pkN (argBit arg), pkN := s.pkN + 1 }) ∨
    (arg.extractLsb' 1 15 ≠ 0#15 ∧ t = latch (.err .badOperand) s) := by
  obtain ⟨hl, h⟩ | ⟨hl, h⟩ := checkOperand_next h
  · split at h
    · exact .inl ⟨by simpa using hl, ‹_›, respond_next h⟩
    · exact .inr (.inl ⟨by simpa using hl, ‹_›, respond_next h⟩)
  · exact .inr (.inr ⟨by simpa using hl, h⟩)

theorem execPkFlush_next {arg : Word16} {s t : State} (h : execPkFlush arg s = .next t) :
    (arg = 0#16 ∧ s.pkN = 0#3 ∧ t = latch .ack s) ∨
    (arg = 0#16 ∧ s.pkN ≠ 0#3 ∧ t = latch (.val (s.pkAcc.setWidth 16)) (clearPacker s)) ∨
    (arg ≠ 0#16 ∧ t = latch (.err .badOperand) s) := by
  obtain ⟨hl, h⟩ | ⟨hl, h⟩ := checkOperand_next h
  · split at h
    · exact .inl ⟨by simpa using hl, ‹_›, respond_next h⟩
    · exact .inr (.inl ⟨by simpa using hl, ‹_›, respond_next h⟩)
  · exact .inr (.inr ⟨by simpa using hl, h⟩)

theorem execUpInit_next {arg : Word16} {s t : State} (h : execUpInit arg s = .next t) :
    (arg = 0#16 ∧ t = latch .ack { s with upPh := .count, upCnt := 0x00#8, upRem := 0x00#8 }) ∨
    (arg ≠ 0#16 ∧ t = latch (.err .badOperand) s) := by
  obtain ⟨hl, h⟩ | ⟨hl, h⟩ := checkOperand_next h
  · exact .inl ⟨by simpa using hl, respond_next h⟩
  · exact .inr ⟨by simpa using hl, h⟩

theorem execUpByte_next {arg : Word16} {s t : State} (h : execUpByte arg s = .next t) :
    (arg.extractLsb' 8 8 = 0#8 ∧ s.upPh = .count ∧ t = latch .ack (takeCount (argByte arg) s)) ∨
    (arg.extractLsb' 8 8 = 0#8 ∧ s.upPh = .data ∧
      t = latch (.val ((argByte arg).setWidth 16)) (takeData (argByte arg) s)) ∨
    (arg.extractLsb' 8 8 = 0#8 ∧ s.upPh = .done ∧ t = latch .ack s) ∨
    (arg.extractLsb' 8 8 ≠ 0#8 ∧ t = latch (.err .badOperand) s) := by
  obtain ⟨hl, h⟩ | ⟨hl, h⟩ := checkOperand_next h
  · split at h
    · exact .inl ⟨by simpa using hl, ‹_›, respond_next h⟩
    · exact .inr (.inl ⟨by simpa using hl, ‹_›, respond_next h⟩)
    · exact .inr (.inr (.inl ⟨by simpa using hl, ‹_›, respond_next h⟩))
  · exact .inr (.inr (.inr ⟨by simpa using hl, h⟩))

theorem execUpEnd_next {arg : Word16} {s t : State} (h : execUpEnd arg s = .next t) :
    (arg = 0#16 ∧ s.upPh = .done ∧ t = latch (.val (s.upCnt.setWidth 16)) s) ∨
    (arg = 0#16 ∧ s.upPh ≠ .done ∧ t = latch (.err .formatError) s) ∨
    (arg ≠ 0#16 ∧ t = latch (.err .badOperand) s) := by
  obtain ⟨hl, h⟩ | ⟨hl, h⟩ := checkOperand_next h
  · split at h
    · exact .inl ⟨by simpa using hl, ‹_›, respond_next h⟩
    · exact .inr (.inl ⟨by simpa using hl, by simp [*], raise_next h⟩)
    · exact .inr (.inl ⟨by simpa using hl, by simp [*], raise_next h⟩)
  · exact .inr (.inr ⟨by simpa using hl, h⟩)

end Sys2Proof.Machine
end

