-- ==== Sys2Proof/Laws/PerInstr.lean ====
section
/-! SUPPORT. Facts about every command as a piece of code, one lemma per constructor. -/

namespace Sys2Proof.Laws

namespace EncodedFields

/-- The encoding carries the command's opcode in `cmd[23:16]` and its operand in `cmd[15:0]` (30_encoding.md R45). -/
def Statement (i : Instr) : Prop := opField (encode i) = i.op ∧ argField (encode i) = i.arg

theorem crcInit (arg : Word16) : Statement (.crcInit arg) := ⟨opField_append _ _, argField_append _ _⟩
theorem crcUpd (arg : Word16) : Statement (.crcUpd arg) := ⟨opField_append _ _, argField_append _ _⟩
theorem crcRd (arg : Word16) : Statement (.crcRd arg) := ⟨opField_append _ _, argField_append _ _⟩
theorem crcChk (arg : Word16) : Statement (.crcChk arg) := ⟨opField_append _ _, argField_append _ _⟩
theorem lrcInit (arg : Word16) : Statement (.lrcInit arg) := ⟨opField_append _ _, argField_append _ _⟩
theorem lrcUpd (arg : Word16) : Statement (.lrcUpd arg) := ⟨opField_append _ _, argField_append _ _⟩
theorem lrcRd (arg : Word16) : Statement (.lrcRd arg) := ⟨opField_append _ _, argField_append _ _⟩
theorem lrcChk (arg : Word16) : Statement (.lrcChk arg) := ⟨opField_append _ _, argField_append _ _⟩
theorem pkInit (arg : Word16) : Statement (.pkInit arg) := ⟨opField_append _ _, argField_append _ _⟩
theorem pkBit (arg : Word16) : Statement (.pkBit arg) := ⟨opField_append _ _, argField_append _ _⟩
theorem pkFlush (arg : Word16) : Statement (.pkFlush arg) := ⟨opField_append _ _, argField_append _ _⟩
theorem upInit (arg : Word16) : Statement (.upInit arg) := ⟨opField_append _ _, argField_append _ _⟩
theorem upByte (arg : Word16) : Statement (.upByte arg) := ⟨opField_append _ _, argField_append _ _⟩
theorem upEnd (arg : Word16) : Statement (.upEnd arg) := ⟨opField_append _ _, argField_append _ _⟩

end EncodedFields

end Sys2Proof.Laws
end

