-- ==== Sys2Proof/Laws/Step.lean ====
section
/-! SUPPORT. One step by what the host drives at the edge (10_state.md R24; 70_reset_and_hazards.md R136). -/

namespace Sys2Proof.Machine

theorem step_reset {s : State} {p : PortSample} {ps : List PortSample} (hs : s.inputs = p :: ps) (h : p.rst = true) :
    step s = .next (resetEdge { s with inputs := ps }) := by
  simp [step, edge, hs, nextSample, clockEdge, h]

theorem step_idle {s : State} {p : PortSample} {ps : List PortSample} (hs : s.inputs = p :: ps) (h : p.rst = false)
    (hv : p.cmdValid = false) : step s = .next (idleEdge { s with inputs := ps }) := by
  simp [step, edge, hs, nextSample, clockEdge, h, hv]

theorem step_word {s : State} {p : PortSample} {ps : List PortSample} (hs : s.inputs = p :: ps) (h : p.rst = false)
    (hv : p.cmdValid = true) : step s = execWord p.cmd { s with inputs := ps } := by
  simp [step, edge, hs, nextSample, clockEdge, h, hv]

theorem step_unlisted {s : State} (hs : s.inputs = []) : step s = .next (idleEdge s) := by
  cases s
  subst hs
  rfl

/-- An unknown opcode raises IllegalOpcode (60_exceptions.md R119). -/
theorem execWord_of_illegal {w : CmdWord} {s : State} {r : DecodeReject} (h : decode w = .error r) :
    execWord w s = .next (latch (.err .illegalOpcode) s) := by
  cases r
  simp [execWord, h, raise, respond]

theorem execWord_of_ok {w : CmdWord} {s : State} {i : Instr} (h : decode w = .ok i) : execWord w s = exec i s := by
  simp [execWord, h]

end Sys2Proof.Machine
end

