-- ==== Sys2Proof/Laws/Trace.lean ====
section
/-! SUPPORT. A driven run, one edge at a time. -/

namespace Sys2Proof.Machine

@[simp] theorem runPort_nil (s : State) : runPort [] s = .next ({ s with inputs := [] }, []) := rfl

/-- A driven run whose first edge answers `t` goes on from `t`. -/
theorem runPort_cons {p : PortSample} {ps : List PortSample} {s t u : State} {rs : List (Option RspWord)}
    (h : clockEdge p { s with inputs := ps } = .next t) (ht : t.inputs = ps) (hr : runPort ps t = .next (u, rs)) :
    runPort (p :: ps) s = .next (u, t.shown :: rs) := by
  have hs : step { s with inputs := p :: ps } = .next t := by simpa [step, edge, nextSample] using h
  have ht' : { t with inputs := ps } = t := by cases t; simp_all
  have hr' : runEdges ps.length t = .next (u, rs) := by rw [← hr, runPort, ht']
  simp [runPort, runEdges, hs, hr']

@[simp] theorem unitCommands_nil (u : FuncUnit) : unitCommands u [] = [] := rfl

@[simp] theorem unitResponses_nil (u : FuncUnit) (rs : List (Option RspWord)) : unitResponses u [] rs = [] := by
  simp [unitResponses]

end Sys2Proof.Machine
end

