-- ==== Sys2Proof/Tests/Slice0.lean ====
section
/-! SUPPORT. Tests against the spec's encodings and vectors (30_encoding.md R45, R48, R50, R51, R56; 95_test_vectors.md), and a
witness for the hypotheses of every statement of Certificates/Slice0/Obligations.lean that has any. Expected values are the spec's. -/

namespace Sys2Proof.Tests

open Sys2Proof Sys2Proof.Machine

/-- The next state, where there is one. -/
def nextOf : Result → Option State
  | .next t => some t
  | .fault _ => none
  | .refused _ => none

/-- The state of 95_test_vectors.md section 2.7: `CDC5 08 03 2 DATA 02 01`. -/
def busy : State := ⟨0xCDC5#16, 0x08#8, 0x03#8, 2#3, .data, 0x02#8, 0x01#8, false, 0x00000#20, []⟩

/-- The state after one edge that presents `w`. -/
def send (w : CmdWord) (s : State) : Option State := nextOf (step (presentWord w s))

/-- `s` with the response `r` latched. -/
def answered (r : RspWord) (s : State) : Option State := some { s with rspV := true, rsp := r }

/-! ### Ill-formed commands, one for each check of R48 -/

theorem test_wf_refuses_format_z :
    (Instr.crcInit 0x0001#16).wf = false ∧ (Instr.crcRd 0xFFFF#16).wf = false ∧ (Instr.lrcInit 0x0100#16).wf = false ∧
    (Instr.lrcRd 0x0001#16).wf = false ∧ (Instr.pkInit 0x0001#16).wf = false ∧ (Instr.pkFlush 0x8000#16).wf = false ∧
    (Instr.upInit 0x0001#16).wf = false ∧ (Instr.upEnd 0x0001#16).wf = false := by decide
theorem test_wf_refuses_format_b :
    (Instr.lrcUpd 0x0100#16).wf = false ∧ (Instr.lrcUpd 0x8000#16).wf = false ∧ (Instr.upByte 0x0100#16).wf = false := by decide
theorem test_wf_refuses_format_f : (Instr.pkBit 0x0002#16).wf = false ∧ (Instr.pkBit 0x8000#16).wf = false := by decide
theorem test_wf_accepts_legal_operands :
    (Instr.crcInit 0x0000#16).wf = true ∧ (Instr.crcUpd 0xFFFF#16).wf = true ∧ (Instr.crcChk 0xFFFF#16).wf = true ∧
    (Instr.lrcChk 0x0108#16).wf = true ∧ (Instr.lrcUpd 0x00FF#16).wf = true ∧ (Instr.pkBit 0x0001#16).wf = true := by decide

/-! ### Decoding: words written out bit by bit from R45 and R50 -/

theorem test_decode_crcInit : decode 0b00010000_0000000000000000#24 = .ok (.crcInit 0x0000#16) := by rfl
theorem test_decode_crcUpd : decode 0b00010001_0000000100110010#24 = .ok (.crcUpd 0x0132#16) := by rfl
theorem test_decode_crcRd : decode 0b00010010_0000000000000000#24 = .ok (.crcRd 0x0000#16) := by rfl
theorem test_decode_crcChk : decode 0b00010011_1100110111000101#24 = .ok (.crcChk 0xCDC5#16) := by rfl
theorem test_decode_lrcInit : decode 0b00100000_0000000000000000#24 = .ok (.lrcInit 0x0000#16) := by rfl
theorem test_decode_lrcUpd : decode 0b00100001_0000000000001010#24 = .ok (.lrcUpd 0x000A#16) := by rfl
theorem test_decode_lrcRd : decode 0b00100010_0000000000000000#24 = .ok (.lrcRd 0x0000#16) := by rfl
theorem test_decode_lrcChk : decode 0b00100011_0000000100001000#24 = .ok (.lrcChk 0x0108#16) := by rfl
theorem test_decode_pkInit : decode 0b00110000_0000000000000000#24 = .ok (.pkInit 0x0000#16) := by rfl
theorem test_decode_pkBit : decode 0b00110001_0000000000000001#24 = .ok (.pkBit 0x0001#16) := by rfl
theorem test_decode_pkFlush : decode 0b00110010_0000000000000000#24 = .ok (.pkFlush 0x0000#16) := by rfl
theorem test_decode_upInit : decode 0b01000000_0000000000000000#24 = .ok (.upInit 0x0000#16) := by rfl
theorem test_decode_upByte : decode 0b01000001_0000000001010101#24 = .ok (.upByte 0x0055#16) := by rfl
theorem test_decode_upEnd : decode 0b01000010_0000000000000000#24 = .ok (.upEnd 0x0000#16) := by rfl
/-- A bad operand is still the command (R50). -/
theorem test_decode_keeps_bad_operand : decode 0b00010000_1000000000000000#24 = .ok (.crcInit 0x8000#16) := by rfl
theorem test_decodeTableWord : decodeTableWord 24 0x4100AA = some (.upByte 0x00AA#16) ∧ decodeTableWord 24 0x140000 = none := by decide
/-- The ends of the five illegal ranges of R51. -/
theorem test_decode_rejects_illegal :
    decode 0x000000#24 = .error (.illegalOpcode 0x00#8) ∧ decode 0x0F1234#24 = .error (.illegalOpcode 0x0F#8) ∧
    decode 0x148000#24 = .error (.illegalOpcode 0x14#8) ∧ decode 0x1F0000#24 = .error (.illegalOpcode 0x1F#8) ∧
    decode 0x240000#24 = .error (.illegalOpcode 0x24#8) ∧ decode 0x2F0000#24 = .error (.illegalOpcode 0x2F#8) ∧
    decode 0x330000#24 = .error (.illegalOpcode 0x33#8) ∧ decode 0x3F0000#24 = .error (.illegalOpcode 0x3F#8) ∧
    decode 0x430000#24 = .error (.illegalOpcode 0x43#8) ∧ decode 0xFFFFFF#24 = .error (.illegalOpcode 0xFF#8) :=
  ⟨rfl, rfl, rfl, rfl, rfl, rfl, rfl, rfl, rfl, rfl⟩

/-! ### One command at a time (95_test_vectors.md sections 2.2 to 2.6) -/

theorem test_crcInit_seeds : send 0x100000#24 { busy with crc := 0x1234#16 } = answered 0x00000#20 { busy with crc := 0xFFFF#16 } := by decide
theorem test_crcInit_bad_operand : send 0x100001#24 busy = answered 0xF0002#20 busy := by decide
theorem test_crcUpd_ignores_high_byte :
    send 0x110101#24 { busy with crc := 0xFFFF#16 } = answered 0x00000#20 { busy with crc := 0x807E#16 } := by decide
theorem test_crcUpd_last_element :
    send 0x11000A#24 { busy with crc := 0x8419#16 } = answered 0x00000#20 { busy with crc := 0xCDC5#16 } := by decide
theorem test_crcRd_answers_crc : send 0x120000#24 busy = answered 0x1CDC5#20 busy := by decide
theorem test_crcRd_bad_operand : send 0x12FFFF#24 busy = answered 0xF0002#20 busy := by decide
theorem test_crcChk_equal : send 0x13CDC5#24 busy = answered 0x10001#20 busy := by decide
theorem test_crcChk_swapped : send 0x13C5CD#24 busy = answered 0x10000#20 busy := by decide
theorem test_lrcInit_clears : send 0x200000#24 { busy with lrc := 0x5A#8 } = answered 0x00000#20 { busy with lrc := 0x00#8 } := by decide
theorem test_lrcUpd_folds : send 0x2100FF#24 busy = answered 0x00000#20 { busy with lrc := 0xF7#8 } := by decide
theorem test_lrcUpd_bad_operand : send 0x2101FF#24 busy = answered 0xF0002#20 busy := by decide
theorem test_lrcRd_answers_lrc : send 0x220000#24 busy = answered 0x10008#20 busy := by decide
theorem test_lrcRd_bad_operand : send 0x220001#24 busy = answered 0xF0002#20 busy := by decide
theorem test_lrcChk_equal : send 0x230008#24 busy = answered 0x10001#20 busy := by decide
theorem test_lrcChk_high_byte_takes_part : send 0x230108#24 busy = answered 0x10000#20 busy := by decide
theorem test_pkInit_clears :
    send 0x300000#24 { busy with pkAcc := 0x05#8, pkN := 3#3 } = answered 0x00000#20 { busy with pkAcc := 0x00#8, pkN := 0#3 } := by decide
theorem test_pkBit_places :
    send 0x310001#24 { busy with pkAcc := 0x01#8, pkN := 2#3 } = answered 0x00000#20 { busy with pkAcc := 0x05#8, pkN := 3#3 } := by decide
theorem test_pkBit_emits :
    send 0x310001#24 { busy with pkAcc := 0x7F#8, pkN := 7#3 } = answered 0x100FF#20 { busy with pkAcc := 0x00#8, pkN := 0#3 } := by decide
theorem test_pkFlush_emits : send 0x320000#24 busy = answered 0x10003#20 { busy with pkAcc := 0x00#8, pkN := 0#3 } := by decide
theorem test_pkFlush_nothing_pending :
    send 0x320000#24 { busy with pkAcc := 0x00#8, pkN := 0#3 } = answered 0x00000#20 { busy with pkAcc := 0x00#8, pkN := 0#3 } := by decide
theorem test_upInit_mid_buffer :
    send 0x400000#24 busy = answered 0x00000#20 { busy with upPh := .count, upCnt := 0x00#8, upRem := 0x00#8 } := by decide
theorem test_upByte_zero_count :
    send 0x410000#24 { busy with upPh := .count, upCnt := 0x00#8, upRem := 0x00#8 } =
      answered 0x00000#20 { busy with upPh := .done, upCnt := 0x00#8, upRem := 0x00#8 } := by decide
theorem test_upByte_last_data : send 0x410003#24 busy = answered 0x10003#20 { busy with upPh := .done, upRem := 0x00#8 } := by decide
theorem test_upEnd_mid_buffer : send 0x420000#24 busy = answered 0xF0003#20 busy := by decide
theorem test_upEnd_done :
    send 0x420000#24 { busy with upPh := .done, upRem := 0x00#8 } = answered 0x10002#20 { busy with upPh := .done, upRem := 0x00#8 } := by decide

/-- BadOperand comes before FormatError, and IllegalOpcode before BadOperand (R121). -/
theorem test_error_order : send 0x420001#24 busy = answered 0xF0002#20 busy ∧ send 0x148000#24 busy = answered 0xF0001#20 busy := by decide

/-! ### Reset and idle edges (section 2.7) -/

/-- The CRC.RD presented with `rst` = 1 is dropped. -/
theorem test_reset_drops_command :
    nextOf (step { busy with inputs := [⟨true, true, 0x120000#24⟩] }) = some State.reset := by decide
theorem test_idle_clears_response :
    nextOf (step { busy with rspV := true, rsp := 0x10008#20, inputs := [⟨false, false, 0x100000#24⟩] }) = some busy := by decide
theorem test_first_commands_after_reset :
    (send 0x120000#24 .reset).map (·.rsp) = some 0x1FFFF#20 ∧ (send 0x220000#24 .reset).map (·.rsp) = some 0x10000#20 ∧
    (send 0x320000#24 .reset).map (·.rsp) = some 0x00000#20 ∧ (send 0x420000#24 .reset).map (·.rsp) = some 0xF0003#20 := by decide
theorem test_withFetchWord : nextOf (step (State.reset.withFetchWord 24 0x110001)) = answered 0x00000#20 { State.reset with crc := 0x807E#16 } := by decide

/-! ### The table and the reference functions (sections 2.1 to 2.5) -/

theorem test_crcTable :
    crcTable 0x00#8 = 0x0000#16 ∧ crcTable 0x01#8 = 0xC0C1#16 ∧ crcTable 0x03#8 = 0x0140#16 ∧ crcTable 0x13#8 = 0xCD41#16 ∧
    crcTable 0x80#8 = 0xA001#16 ∧ crcTable 0xCE#8 = 0x9481#16 ∧ crcTable 0xFF#8 = 0x4040#16 := by decide
theorem test_computeCRC :
    computeCRC [] = 0xFFFF#16 ∧ computeCRC [0x0101] = 0x807E#16 ∧ computeCRC [0x01, 0x03, 0x00, 0x00, 0x00, 0x0A] = 0xCDC5#16 ∧
    computeCRC [0x31, 0x32, 0x33, 0x34, 0x35, 0x36, 0x37, 0x38, 0x39] = 0x4B37#16 := by decide
theorem test_checkCRC : checkCRC [0x31, 0x32] 0xF595 = true ∧ checkCRC [0x31, 0x32] 0x1F595 = false := by decide
theorem test_computeLRC :
    computeLRC [] = 0x00#8 ∧ computeLRC [0x01#8, 0x03#8, 0x00#8, 0x00#8, 0x00#8, 0x0A#8] = 0x08#8 ∧
    computeLRC [0x41#8, 0x42#8, 0x43#8] = 0x40#8 := by decide
theorem test_checkLRC : checkLRC [0x55#8] 0x55 = true ∧ checkLRC [0x55#8] 0x155 = false := by decide
theorem test_packBits :
    packBits [] = [] ∧ packBits [false, false, false, false, false, false, false, true] = [0x80#8] ∧
    packBits [true, false, true, true, false, false, true, false, true, true] = [0x4D#8, 0x03#8] := by decide
theorem test_unpackBits_source_example :
    unpackBits [0x01#8, 0x55#8] = .ok ([true, false, true, false, true, false, true, false], 0x01#8) := by rfl
theorem test_unpackBits_short : unpackBits [0x02#8, 0x4D#8] = .error .formatError := by rfl

/-! ### Text (R56) -/

theorem test_assemble_commands :
    assembleLine "CRC.UPD 0x31".toList = .word 0x110031#24 ∧ assembleLine "CRC.CHK 0x4B37".toList = .word 0x134B37#24 ∧
    assembleLine "PK.BIT 1".toList = .word 0x310001#24 ∧ assembleLine "UP.END".toList = .word 0x420000#24 ∧
    assembleLine "LRC.UPD 10".toList = .word 0x21000A#24 := by decide
theorem test_assemble_raw_word_and_comment :
    assembleLine ".word 0x120001 -- bad operand".toList = .word 0x120001#24 ∧ assembleLine "-- nothing".toList = .blank := by decide
theorem test_assemble_malformed : assembleLine "PK.BIT 2".toList = .malformed ∧ assembleLine "CRC.RD 0".toList = .malformed := by decide
theorem test_renderLine :
    renderLine (.lrcUpd 0x000A#16) = "LRC.UPD 0x0A".toList ∧ renderLine (.crcRd 0x0001#16) = ".word 0x120001".toList := by decide

/-! ### Witnesses: encoding and the edge -/

theorem witness_IllegalOpcodes :
    decode 0x430000#24 = .error (.illegalOpcode 0x43#8) ∧
    { busy with inputs := [.command 0x430000#24, .idle] }.inputs = .command 0x430000#24 :: [.idle] := ⟨rfl, rfl⟩
theorem witness_StepRunsTheDecodedCommand :
    decode 0x410003#24 = .ok (.upByte 0x0003#16) ∧
    { busy with inputs := [.command 0x410003#24, .idle] }.inputs = .command 0x410003#24 :: [.idle] := ⟨rfl, rfl⟩
theorem witness_ClockEdge :
    { busy with inputs := [⟨false, true, 0x420000#24⟩, ⟨false, false, 0xFFFFFF#24⟩] }.inputs =
      ⟨false, true, 0x420000#24⟩ :: [⟨false, false, 0xFFFFFF#24⟩] ∧
    { busy with inputs := [⟨false, false, 0xFFFFFF#24⟩] }.inputs = ⟨false, false, 0xFFFFFF#24⟩ :: [] ∧
    (PortSample.mk false true 0x420000#24).rst = false ∧ (PortSample.mk false true 0x420000#24).cmdValid = true ∧
    (PortSample.mk false false 0xFFFFFF#24).rst = false ∧ (PortSample.mk false false 0xFFFFFF#24).cmdValid = false := by decide
/-- Also of ResetMeetsTheInvariants and the second clause of RegisterInvariantsAreKept. -/
theorem witness_ResetEdge :
    { busy with inputs := [⟨true, true, 0x120000#24⟩, .idle] }.inputs = ⟨true, true, 0x120000#24⟩ :: [.idle] ∧
    (PortSample.mk true true 0x120000#24).rst = true := by decide

/-- A command, three idle edges, a reset, a command; and the same without the idle edges. -/
def slowDrive : List PortSample :=
  [.command 0x110001#24, .idle, ⟨false, false, 0x100000#24⟩, .idle, ⟨true, false, 0x000000#24⟩, .command 0x120000#24]
def fastDrive : List PortSample := [.command 0x110001#24, ⟨true, false, 0x000000#24⟩, .command 0x120000#24]
theorem witness_IdleEdges :
    busy.SameRegs { busy with rspV := true, rsp := 0x10008#20 } ∧
    slowDrive.filter (fun p => p.rst || p.cmdValid) = fastDrive.filter (fun p => p.rst || p.cmdValid) :=
  ⟨by unfold State.SameRegs; decide, by decide⟩

/-! ### Witnesses: one command (each clause's operand and state) -/

/-- The operand clauses of every format Z command. -/
theorem witness_format_z : (0x0000#16 = 0x0000#16) ∧ (0x0001#16 ≠ 0x0000#16) ∧ (0x8000#16 ≠ 0x0000#16) := by decide
/-- The operand clauses of every format B command. -/
theorem witness_format_b :
    (0x00FF#16).extractLsb' 8 8 = 0x00#8 ∧ (0x0100#16).extractLsb' 8 8 ≠ 0x00#8 ∧ (0x8000#16).extractLsb' 8 8 ≠ 0x00#8 := by decide
theorem witness_CrcChk : busy.crc = 0xCDC5#16 ∧ busy.crc ≠ 0xC5CD#16 := by decide
theorem witness_LrcChk :
    busy.lrc.setWidth 16 = 0x0008#16 ∧ busy.lrc.setWidth 16 ≠ 0x0009#16 ∧ (0x0108#16).extractLsb' 8 8 ≠ 0x00#8 := by decide
theorem witness_PkBit :
    (0x0001#16).extractLsb' 1 15 = 0#15 ∧ { busy with pkAcc := 0x55#8, pkN := 7#3 }.pkN = 7#3 ∧
    { busy with pkAcc := 0x00#8, pkN := 6#3 }.pkN ≠ 7#3 ∧ (0x0002#16).extractLsb' 1 15 ≠ 0#15 := by decide
theorem witness_PkFlush : State.reset.pkN = 0#3 ∧ { busy with pkAcc := 0x01#8, pkN := 1#3 }.pkN ≠ 0#3 := by decide
theorem witness_UpByte :
    State.reset.upPh = .count ∧ busy.upPh = .data ∧ busy.upRem ≠ 0x00#8 ∧
    { busy with upPh := .done, upRem := 0x00#8 }.upPh = .done := by decide
theorem witness_UpByteWithNoByteLeft :
    (0x0055#16).extractLsb' 8 8 = 0x00#8 ∧ { busy with upRem := 0x00#8 }.upPh = .data ∧ { busy with upRem := 0x00#8 }.upRem = 0x00#8 := by
  decide
theorem witness_UpEnd : { busy with upPh := .done, upRem := 0x00#8 }.upPh = .done ∧ busy.upPh ≠ .done ∧ State.reset.upPh ≠ .done := by decide
theorem witness_Emitting :
    busy.Inv ∧ { State.reset with pkAcc := 0x7F#8, pkN := 7#3 }.Inv ∧ { State.reset with pkAcc := 0x7F#8, pkN := 7#3 }.pkN = 7#3 := by
  unfold State.Inv; decide

/-! ### Witnesses: whole sequences -/

/-- The message `31 32` with a refused command, a query, another unit's command and an idle edge in between (program P4). -/
def crcDrive : List PortSample :=
  [.command 0x110031#24, .command 0x120001#24, .idle, .command 0x120000#24, .command 0x210001#24, .command 0x110132#24]
theorem witness_CrcCommands :
    NoReset crcDrive ∧ NoReset (PortSample.command 0x100000#24 :: crcDrive) ∧
    StartsFresh .crc (.crcInit 0x0000#16) [.crcInit 0x0000#16] busy ∧ StartsFresh .crc (.crcInit 0x0000#16) [] .reset ∧
    (unitCommands .crc (PortSample.command 0x100000#24 :: crcDrive)).filter writesCrc =
      [Instr.crcInit 0x0000#16] ++ [0x0031#16, 0x0132#16].map Instr.crcUpd ∧
    (unitCommands .crc crcDrive).filter writesCrc = [] ++ [0x0031#16, 0x0132#16].map Instr.crcUpd :=
  ⟨by unfold NoReset; decide +kernel, by unfold NoReset; decide +kernel, .inl rfl, .inr ⟨rfl, rfl⟩, by decide +kernel, by decide +kernel⟩

/-- The elements `01 0A` with a refused element, a check, another unit's command and an idle edge in between. -/
def lrcDrive : List PortSample :=
  [.command 0x210001#24, .command 0x2101FF#24, .idle, .command 0x230108#24, .command 0x100000#24, .command 0x21000A#24]
theorem witness_LrcCommands :
    NoReset lrcDrive ∧ NoReset (PortSample.command 0x200000#24 :: lrcDrive) ∧
    StartsFresh .lrc (.lrcInit 0x0000#16) [.lrcInit 0x0000#16] busy ∧ StartsFresh .lrc (.lrcInit 0x0000#16) [] .reset ∧
    (unitCommands .lrc (PortSample.command 0x200000#24 :: lrcDrive)).filter writesLrc =
      [Instr.lrcInit 0x0000#16] ++ [0x01#8, 0x0A#8].map (fun e => Instr.lrcUpd (e.setWidth 16)) ∧
    (unitCommands .lrc lrcDrive).filter writesLrc = [] ++ [0x01#8, 0x0A#8].map (fun e => Instr.lrcUpd (e.setWidth 16)) :=
  ⟨by unfold NoReset; decide +kernel, by unfold NoReset; decide +kernel, .inl rfl, .inr ⟨rfl, rfl⟩, by decide +kernel, by decide +kernel⟩

theorem witness_LrcIsAFold : List.Perm [0x01#8, 0x03#8] [0x03#8, 0x01#8] := .swap _ _ _
theorem witness_CrcSingleBitFlip :
    0 < 8 ∧ 7 < 8 ∧ computeCRC [0x00, 0x03, 0x00, 0x00, 0x00, 0x0A] = 0x1CC4#16 ∧
    computeCRC [0x01, 0x03, 0x00, 0x00, 0x00, 0x8A] = 0x6DC4#16 := by decide +kernel

/-- The bits of program P3. -/
def tenBits : List Bool := [true, false, true, true, false, false, true, false, true, true]
def packDrive : List PortSample :=
  tenBits.map (fun v => PortSample.ofInstr (Instr.pkBit (bitOperand v))) ++ [PortSample.idle, .command 0x420000#24]
theorem witness_PackerCommands :
    NoReset packDrive ∧ NoReset (PortSample.command 0x300000#24 :: packDrive ++ [PortSample.command 0x320000#24]) ∧
    StartsFresh .packer (.pkInit 0x0000#16) [.pkInit 0x0000#16] busy ∧ StartsFresh .packer (.pkInit 0x0000#16) [] .reset ∧
    unitCommands .packer (PortSample.command 0x300000#24 :: packDrive ++ [PortSample.command 0x320000#24]) =
      [Instr.pkInit 0x0000#16] ++ tenBits.map (fun v => Instr.pkBit (bitOperand v)) ++ [Instr.pkFlush 0x0000#16] ∧
    unitCommands .packer packDrive = [] ++ tenBits.map (fun v => Instr.pkBit (bitOperand v)) :=
  ⟨by unfold NoReset; decide +kernel, by unfold NoReset; decide +kernel, .inl rfl, .inr ⟨rfl, rfl, rfl⟩, by decide +kernel, by decide +kernel⟩
/-- Bits inside the input, and padding. -/
theorem witness_PackedBits :
    (packBits tenBits)[1]? = some 0x03#8 ∧ tenBits[8 * 1 + 1]? = some true ∧ tenBits.length ≤ 8 * 1 + 2 ∧ tenBits.length ≤ 8 * 2 := by decide +kernel

/-- A buffer with a trailing byte (program P3), another unit's command and an idle edge in between. -/
def unpackDrive (buf : List Byte) : List PortSample :=
  .idle :: .command 0x310001#24 :: buf.map (fun y => PortSample.ofInstr (Instr.upByte (y.setWidth 16)))
theorem witness_UnpackerCommands :
    NoReset (PortSample.command 0x400000#24 :: unpackDrive [0x02#8, 0x4D#8, 0x03#8, 0xAA#8] ++ [PortSample.command 0x420000#24]) ∧
    NoReset (unpackDrive [0x02#8, 0x4D#8] ++ [PortSample.command 0x420000#24]) ∧ NoReset (unpackDrive [0x02#8, 0x4D#8]) ∧
    StartsFresh .unpacker (.upInit 0x0000#16) [.upInit 0x0000#16] busy ∧ StartsFresh .unpacker (.upInit 0x0000#16) [] .reset ∧
    unitCommands .unpacker (PortSample.command 0x400000#24 :: unpackDrive [0x02#8, 0x4D#8, 0x03#8, 0xAA#8] ++ [PortSample.command 0x420000#24]) =
      [Instr.upInit 0x0000#16] ++ [0x02#8, 0x4D#8, 0x03#8, 0xAA#8].map (fun y => Instr.upByte (y.setWidth 16)) ++ [Instr.upEnd 0x0000#16] ∧
    unitCommands .unpacker (unpackDrive [0x02#8, 0x4D#8] ++ [PortSample.command 0x420000#24]) =
      [] ++ [0x02#8, 0x4D#8].map (fun y => Instr.upByte (y.setWidth 16)) ++ [Instr.upEnd 0x0000#16] ∧
    unitCommands .unpacker (unpackDrive [0x02#8, 0x4D#8]) =
      [] ++ (0x02#8 :: [0x4D#8]).map (fun y => Instr.upByte (y.setWidth 16)) :=
  ⟨by unfold NoReset; decide +kernel, by unfold NoReset; decide +kernel, by unfold NoReset; decide +kernel, .inl rfl, .inr ⟨rfl, rfl, rfl, rfl⟩,
    by decide +kernel, by decide +kernel, by decide +kernel⟩
theorem witness_UnpackerCommands_results :
    unpackBits [0x02#8, 0x4D#8] = .error .formatError ∧
    unpackBits [0x02#8, 0x4D#8, 0x03#8, 0xAA#8] = .ok (tenBits ++ List.replicate 6 false, 0x02#8) := ⟨rfl, rfl⟩
theorem witness_UnpackBits_bit :
    1 < (0x02#8).toNat ∧ 7 < 8 ∧ [0x4D#8, 0x03#8][1]? = some 0x03#8 ∧ [0x4D#8].length < (0x02#8).toNat ∧
    (List.replicate 254 0x00#8).length < (0xFF#8).toNat ∧ (0xFF#8).toNat ≤ (List.replicate 255 0x00#8).length ∧
    (0x02#8).toNat ≤ [0x4D#8, 0x03#8].length := by
  simp only [List.length_replicate]; decide
theorem witness_UnpackingPackedBits : (List.replicate 2040 true).length ≤ 2040 ∧ tenBits.length ≤ 2040 := by
  simp only [List.length_replicate]; decide

/-! ### Witnesses: errors and the whole machine -/

theorem witness_ErrorsChangeNoRegister : ∃ t, step (presentWord 0x420000#24 busy) = .next t ∧ rspKind t.rsp = 0xF#4 := ⟨_, rfl, by decide⟩
/-- One state and word for each of the three codes, and one with none. -/
theorem witness_EachError :
    (∃ t, execWord 0x500000#24 busy = .next t ∧ t.rsp = 0xF0001#20) ∧ (∃ t, execWord 0x318000#24 busy = .next t ∧ t.rsp = 0xF0002#20) ∧
    (∃ t, execWord 0x420000#24 busy = .next t ∧ t.rsp = 0xF0003#20) ∧ (∃ t, execWord 0x120000#24 busy = .next t ∧ t.rsp = 0x1CDC5#20) :=
  ⟨⟨_, rfl, by decide⟩, ⟨_, rfl, by decide⟩, ⟨_, rfl, by decide⟩, ⟨_, rfl, by decide⟩⟩
theorem witness_ErrorsAreNotSticky : ∃ t, execWord 0x410100#24 busy = .next t ∧ rspKind t.rsp = 0xF#4 := ⟨_, rfl, by decide⟩
/-- Also of EveryResponseIsLegal. -/
theorem witness_RegisterInvariants : busy.Inv ∧ (presentWord 0x410003#24 busy).Inv ∧ ∃ t, step (presentWord 0x410003#24 busy) = .next t :=
  ⟨by unfold State.Inv; decide, by unfold State.Inv; decide, _, rfl⟩
theorem witness_CountersNeverWrap :
    (∃ t, exec (.pkBit 0x0001#16) { busy with pkAcc := 0x00#8, pkN := 6#3 } = .next t ∧ t.pkN = 7#3) ∧
    (∃ t, exec (.pkBit 0x0001#16) { busy with pkAcc := 0x00#8, pkN := 7#3 } = .next t ∧ t.pkN = 0#3) ∧
    busy.Inv ∧ busy.upPh = .data ∧ (∃ t, exec (.upByte 0x0003#16) busy = .next t ∧ t.upRem ≠ busy.upRem) :=
  ⟨⟨_, rfl, by decide⟩, ⟨_, rfl, by decide⟩, by unfold State.Inv; decide, rfl, ⟨_, rfl, by decide⟩⟩
theorem witness_CommandsTouchOnlyTheirUnit :
    FuncUnit.lrc ≠ (Instr.crcUpd 0x0001#16).unit ∧ (∃ t, exec (.crcUpd 0x0001#16) busy = .next t) ∧
    State.AgreeOn .crc busy { State.reset with crc := 0xCDC5#16 } ∧
    (∃ t, exec (.crcUpd 0x0001#16) { State.reset with crc := 0xCDC5#16 } = .next t) := ⟨by decide, ⟨_, rfl⟩, rfl, ⟨_, rfl⟩⟩
/-- Each of the five queries, and edges between two of them. -/
theorem witness_Queries :
    (∃ t, exec (.crcRd 0x0000#16) busy = .next t) ∧ (∃ t, exec (.crcChk 0xCDC5#16) busy = .next t) ∧
    (∃ t, exec (.lrcRd 0x0000#16) busy = .next t) ∧ (∃ t, exec (.lrcChk 0x0008#16) busy = .next t) ∧
    (∃ t, exec (.upEnd 0x0000#16) busy = .next t) ∧ NoReset [.idle, .command 0x310001#24] ∧
    unitCommands .crc [.idle, .command 0x310001#24] = [] ∧ unitCommands .lrc [.idle, .command 0x310001#24] = [] ∧
    unitCommands .unpacker [.idle, .command 0x310001#24] = [] :=
  ⟨⟨_, rfl⟩, ⟨_, rfl⟩, ⟨_, rfl⟩, ⟨_, rfl⟩, ⟨_, rfl⟩, by unfold NoReset; decide, by decide, by decide, by decide⟩
theorem witness_UnitsAreIsolated :
    NoReset crcDrive ∧ NoReset [.command 0x110031#24, .command 0x120001#24, .command 0x120000#24, .command 0x110132#24] ∧
    State.AgreeOn .crc busy { State.reset with crc := 0xCDC5#16 } ∧
    unitCommands .crc crcDrive =
      unitCommands .crc [.command 0x110031#24, .command 0x120001#24, .command 0x120000#24, .command 0x110132#24] :=
  ⟨by unfold NoReset; decide, by unfold NoReset; decide, rfl, by decide⟩

end Sys2Proof.Tests
end

/-! ### Scope: what one command may touch (00_scope.md R2, R6)

`CompletesWithin` and `SameAnswer` are the two judgements about a command's `Result` that scope needs. Each has one rule for
`respond`, one for `raise` and one for `checkOperand`, the three operations every meaning is built from. -/

namespace Sys2Proof.Machine

/-! #### Agreement on a unit's registers -/

@[simp] theorem agreeOn_crc (s t : State) : s.AgreeOn .crc t ↔ s.crc = t.crc := Iff.rfl
@[simp] theorem agreeOn_lrc (s t : State) : s.AgreeOn .lrc t ↔ s.lrc = t.lrc := Iff.rfl
@[simp] theorem agreeOn_packer (s t : State) : s.AgreeOn .packer t ↔ s.pkAcc = t.pkAcc ∧ s.pkN = t.pkN := Iff.rfl
@[simp] theorem agreeOn_unpacker (s t : State) :
    s.AgreeOn .unpacker t ↔ s.upPh = t.upPh ∧ s.upCnt = t.upCnt ∧ s.upRem = t.upRem := Iff.rfl

theorem State.AgreeOn.refl (u : FuncUnit) (s : State) : s.AgreeOn u s := by
  cases u <;> simp

theorem State.AgreeOn.symm {u : FuncUnit} {s t : State} (h : s.AgreeOn u t) : t.AgreeOn u s := by
  cases u <;> simp_all

theorem State.AgreeOn.trans {u : FuncUnit} {s t v : State} (h : s.AgreeOn u t) (h' : t.AgreeOn u v) : s.AgreeOn u v := by
  cases u <;> simp_all

@[simp] theorem agreeOn_setInputs_left (u : FuncUnit) (s t : State) (ps : List PortSample) :
    { s with inputs := ps }.AgreeOn u t ↔ s.AgreeOn u t := Iff.rfl

/-! #### Writes to one unit -/

/-- `t` is `s` but for the registers of `u` and the response port. -/
structure State.SameOutside (u : FuncUnit) (s t : State) : Prop where
  agreeOn : ∀ v, v ≠ u → s.AgreeOn v t
  inputs : t.inputs = s.inputs

theorem State.SameOutside.refl (u : FuncUnit) (s : State) : s.SameOutside u s :=
  ⟨fun v _ => .refl v s, rfl⟩

theorem sameOutside_setCrc (s : State) (c : Word16) : s.SameOutside .crc { s with crc := c } :=
  ⟨fun v hv => by cases v <;> simp_all, rfl⟩

theorem sameOutside_setLrc (s : State) (l : Byte) : s.SameOutside .lrc { s with lrc := l } :=
  ⟨fun v hv => by cases v <;> simp_all, rfl⟩

theorem sameOutside_setPacker (s : State) (a : Byte) (n : BitVec 3) : s.SameOutside .packer { s with pkAcc := a, pkN := n } :=
  ⟨fun v hv => by cases v <;> simp_all, rfl⟩

theorem sameOutside_setUnpacker (s : State) (p : Phase) (c r : Byte) :
    s.SameOutside .unpacker { s with upPh := p, upCnt := c, upRem := r } :=
  ⟨fun v hv => by cases v <;> simp_all, rfl⟩

/-! #### Every command completes, inside its own unit -/

/-- The result is a next state with a response shown, and only the registers of `u` may differ from those of `s`. -/
def CompletesWithin (u : FuncUnit) (s : State) (r : Result) : Prop :=
  ∃ t, r = .next t ∧ t.rspV = true ∧ s.SameOutside u t

theorem CompletesWithin.respond {u : FuncUnit} {s t : State} {r : Response} (h : s.SameOutside u t) :
    CompletesWithin u s (respond r t) :=
  ⟨latch r t, rfl, rfl, h.agreeOn, h.inputs⟩

theorem CompletesWithin.raise (u : FuncUnit) (e : CmdError) (s : State) : CompletesWithin u s (raise e s) :=
  .respond (.refl u s)

theorem CompletesWithin.checkOperand {u : FuncUnit} {s : State} {fmt : Format} {arg : Word16} {ok : Result}
    (h : CompletesWithin u s ok) : CompletesWithin u s (checkOperand fmt arg s ok) := by
  cases hl : operandLegal fmt arg
  · rw [checkOperand_of_illegal hl]
    exact .raise u .badOperand s
  · rwa [checkOperand_of_legal hl]

theorem execPkBit_completesWithin (arg : Word16) (s : State) : CompletesWithin .packer s (execPkBit arg s) := by
  refine .checkOperand ?_
  split
  · exact .respond (sameOutside_setPacker s _ _)
  · exact .respond (sameOutside_setPacker s _ _)

theorem execPkFlush_completesWithin (arg : Word16) (s : State) : CompletesWithin .packer s (execPkFlush arg s) := by
  refine .checkOperand ?_
  split
  · exact .respond (.refl _ s)
  · exact .respond (sameOutside_setPacker s _ _)

theorem execUpByte_completesWithin (arg : Word16) (s : State) : CompletesWithin .unpacker s (execUpByte arg s) := by
  refine .checkOperand ?_
  split
  · exact .respond (sameOutside_setUnpacker s _ _ _)
  · exact .respond (sameOutside_setUnpacker s _ _ _)
  · exact .respond (.refl _ s)

theorem execUpEnd_completesWithin (arg : Word16) (s : State) : CompletesWithin .unpacker s (execUpEnd arg s) := by
  refine .checkOperand ?_
  split
  · exact .respond (.refl _ s)
  · exact .raise _ _ s
  · exact .raise _ _ s

/-- R2 (the write half) and R6. The format W commands (CRC.UPD and the checks) have no illegal operand, so there the operand check
is the command's own rule. -/
theorem exec_completesWithin (i : Instr) (s : State) : CompletesWithin i.unit s (exec i s) := by
  cases i with
  | crcInit arg => exact .checkOperand (.respond (sameOutside_setCrc s _))
  | crcUpd arg => exact .respond (sameOutside_setCrc s _)
  | crcRd arg => exact .checkOperand (.respond (.refl _ s))
  | crcChk arg => exact .respond (.refl _ s)
  | lrcInit arg => exact .checkOperand (.respond (sameOutside_setLrc s _))
  | lrcUpd arg => exact .checkOperand (.respond (sameOutside_setLrc s _))
  | lrcRd arg => exact .checkOperand (.respond (.refl _ s))
  | lrcChk arg => exact .respond (.refl _ s)
  | pkInit arg => exact .checkOperand (.respond (sameOutside_setPacker s _ _))
  | pkBit arg => exact execPkBit_completesWithin arg s
  | pkFlush arg => exact execPkFlush_completesWithin arg s
  | upInit arg => exact .checkOperand (.respond (sameOutside_setUnpacker s _ _ _))
  | upByte arg => exact execUpByte_completesWithin arg s
  | upEnd arg => exact execUpEnd_completesWithin arg s

/-! #### A command reads its own unit only -/

/-- Both results are next states, with the same registers in `u` and the same response word. -/
def SameAnswer (u : FuncUnit) (r r' : Result) : Prop :=
  ∃ t t', r = .next t ∧ r' = .next t' ∧ t.AgreeOn u t' ∧ t.rsp = t'.rsp

theorem SameAnswer.respond {u : FuncUnit} {s s' : State} {r r' : Response} (h : s.AgreeOn u s') (hr : r = r') :
    SameAnswer u (respond r s) (respond r' s') :=
  ⟨latch r s, latch r' s', rfl, rfl, h, congrArg Response.word hr⟩

theorem SameAnswer.raise {u : FuncUnit} {s s' : State} (e : CmdError) (h : s.AgreeOn u s') :
    SameAnswer u (raise e s) (raise e s') :=
  .respond h rfl

theorem SameAnswer.checkOperand {u : FuncUnit} {s s' : State} {fmt : Format} {arg : Word16} {ok ok' : Result}
    (h : s.AgreeOn u s') (hok : SameAnswer u ok ok') :
    SameAnswer u (checkOperand fmt arg s ok) (checkOperand fmt arg s' ok') := by
  cases hl : operandLegal fmt arg
  · rw [checkOperand_of_illegal hl, checkOperand_of_illegal hl]
    exact .raise .badOperand h
  · rwa [checkOperand_of_legal hl, checkOperand_of_legal hl]

theorem execPkBit_sameAnswer (arg : Word16) {s s' : State} (h : s.AgreeOn .packer s') :
    SameAnswer .packer (execPkBit arg s) (execPkBit arg s') := by
  have ⟨hacc, hn⟩ := h
  refine .checkOperand h ?_
  rw [hacc, hn]
  split
  · exact .respond ⟨rfl, rfl⟩ rfl
  · exact .respond ⟨rfl, rfl⟩ rfl

theorem execPkFlush_sameAnswer (arg : Word16) {s s' : State} (h : s.AgreeOn .packer s') :
    SameAnswer .packer (execPkFlush arg s) (execPkFlush arg s') := by
  have ⟨hacc, hn⟩ := h
  refine .checkOperand h ?_
  rw [hacc, hn]
  split
  · exact .respond h rfl
  · exact .respond ⟨rfl, rfl⟩ rfl

theorem takeData_agreeOn (y : Byte) {s s' : State} (h : s.AgreeOn .unpacker s') :
    (takeData y s).AgreeOn .unpacker (takeData y s') := by
  obtain ⟨hph, hcnt, hrem⟩ := h
  simp [countDown, hph, hcnt, hrem]

theorem execUpByte_sameAnswer (arg : Word16) {s s' : State} (h : s.AgreeOn .unpacker s') :
    SameAnswer .unpacker (execUpByte arg s) (execUpByte arg s') := by
  have ⟨hph, _, _⟩ := h
  refine .checkOperand h ?_
  rw [hph]
  split
  · exact .respond ⟨rfl, rfl, rfl⟩ rfl
  · exact .respond (takeData_agreeOn _ h) rfl
  · exact .respond h rfl

theorem execUpEnd_sameAnswer (arg : Word16) {s s' : State} (h : s.AgreeOn .unpacker s') :
    SameAnswer .unpacker (execUpEnd arg s) (execUpEnd arg s') := by
  have ⟨hph, hcnt, _⟩ := h
  refine .checkOperand h ?_
  rw [hph, hcnt]
  split
  · exact .respond h rfl
  · exact .raise _ h
  · exact .raise _ h

/-- R2: the read half. -/
theorem exec_sameAnswer (i : Instr) {s s' : State} (h : s.AgreeOn i.unit s') : SameAnswer i.unit (exec i s) (exec i s') := by
  cases i with
  | crcInit arg => exact .checkOperand h (.respond rfl rfl)
  | crcUpd arg => exact .respond ((agreeOn_crc _ _).mpr (congrArg (crcFold · (argByte arg)) h)) rfl
  | crcRd arg => exact .checkOperand h (.respond h (congrArg Response.val h))
  | crcChk arg => exact .respond h (congrArg (fun c => Response.val (boolVal (c == arg))) h)
  | lrcInit arg => exact .checkOperand h (.respond rfl rfl)
  | lrcUpd arg => exact .checkOperand h (.respond (congrArg (· ^^^ argByte arg) h) rfl)
  | lrcRd arg => exact .checkOperand h (.respond h (congrArg (fun l => Response.val (l.setWidth 16)) h))
  | lrcChk arg => exact .respond h (congrArg (fun l => Response.val (boolVal (l.setWidth 16 == arg))) h)
  | pkInit arg => exact .checkOperand h (.respond ⟨rfl, rfl⟩ rfl)
  | pkBit arg => exact execPkBit_sameAnswer arg h
  | pkFlush arg => exact execPkFlush_sameAnswer arg h
  | upInit arg => exact .checkOperand h (.respond ⟨rfl, rfl, rfl⟩ rfl)
  | upByte arg => exact execUpByte_sameAnswer arg h
  | upEnd arg => exact execUpEnd_sameAnswer arg h

/-! #### The state after a command, as a function -/

/-- The state after `i`. No command is refused (`exec_eq_next`), so the last arm is never taken. -/
def execState (i : Instr) (s : State) : State :=
  match exec i s with
  | .next t => t
  | _ => s

theorem execState_of_exec {i : Instr} {s t : State} (h : exec i s = .next t) : execState i s = t := by
  simp [execState, h]

theorem exec_eq_next (i : Instr) (s : State) : exec i s = .next (execState i s) := by
  obtain ⟨t, ht, -⟩ := exec_completesWithin i s
  rw [execState_of_exec ht, ht]

@[simp] theorem execState_rspV (i : Instr) (s : State) : (execState i s).rspV = true := by
  obtain ⟨t, ht, hv, -⟩ := exec_completesWithin i s
  rwa [execState_of_exec ht]

theorem execState_sameOutside (i : Instr) (s : State) : s.SameOutside i.unit (execState i s) := by
  obtain ⟨t, ht, -, hs⟩ := exec_completesWithin i s
  rwa [execState_of_exec ht]

@[simp] theorem execState_inputs (i : Instr) (s : State) : (execState i s).inputs = s.inputs :=
  (execState_sameOutside i s).inputs

theorem execState_congr {i : Instr} {s s' : State} (h : s.AgreeOn i.unit s') :
    (execState i s).AgreeOn i.unit (execState i s') ∧ (execState i s).rsp = (execState i s').rsp := by
  obtain ⟨t, t', ht, ht', hag, hrsp⟩ := exec_sameAnswer i h
  rw [execState_of_exec ht, execState_of_exec ht']
  exact ⟨hag, hrsp⟩

/-- Settles O48: each half reads off the state after the command. -/
theorem commandsTouchOnlyTheirUnit : Obligations.CommandsTouchOnlyTheirUnit := by
  unfold Obligations.CommandsTouchOnlyTheirUnit
  refine ⟨fun i s t u ht hu => ?_, fun i s t s' t' hs ht ht' => ?_⟩
  · rw [← execState_of_exec ht]
    exact (execState_sameOutside i s).agreeOn u hu
  · rw [← execState_of_exec ht, ← execState_of_exec ht']
    exact execState_congr hs

/-! ### Totality of `Exec` and of the step (00_scope.md R6; 30_encoding.md R52) -/

theorem execWord_completes (w : CmdWord) (s : State) : ∃ t, execWord w s = .next t ∧ t.rspV = true ∧ t.inputs = s.inputs := by
  cases hw : decode w with
  | ok i => exact ⟨execState i s, by rw [execWord_of_ok hw, exec_eq_next], by simp, by simp⟩
  | error r => exact ⟨_, execWord_of_illegal hw, rfl, rfl⟩

theorem clockEdge_completes (p : PortSample) (s : State) : ∃ t, clockEdge p s = .next t ∧ t.inputs = s.inputs := by
  unfold clockEdge
  split
  · exact ⟨_, rfl, rfl⟩
  split
  · obtain ⟨t, ht, -, hi⟩ := execWord_completes p.cmd s
    exact ⟨t, ht, hi⟩
  · exact ⟨_, rfl, rfl⟩

@[simp] theorem nextSample_rest (ps : List PortSample) : (nextSample ps).2 = ps.tail := by
  cases ps <;> rfl

/-- Settles O10: whatever the sample at the edge, the edge completes. -/
theorem everyStepAnswersANextState : Obligations.EveryStepAnswersANextState := by
  unfold Obligations.EveryStepAnswersANextState
  refine ⟨execWord_completes, fun s => ?_⟩
  obtain ⟨t, ht, hi⟩ := clockEdge_completes (nextSample s.inputs).1 { s with inputs := (nextSample s.inputs).2 }
  exact ⟨t, ht, by simpa using hi⟩

/-! ### One unit over a whole run (R2; 20_memory.md R39; 70_reset_and_hazards.md R150)

The idea: a reset-free drive acts on a unit as the unit's own commands do, run one after the other with nothing in between
(`runPort_unit`). Two drives with the same commands for the unit are then compared through that one run. -/

/-- The state after the commands `is`, one after the other. -/
def execAll (is : List Instr) (s : State) : State := is.foldl (fun t i => execState i t) s

/-- The responses to the commands `is`, one after the other. -/
def commandResponses : List Instr → State → List RspWord
  | [], _ => []
  | i :: is, s => (execState i s).rsp :: commandResponses is (execState i s)

@[simp] theorem execAll_nil (s : State) : execAll [] s = s := rfl
@[simp] theorem execAll_cons (i : Instr) (is : List Instr) (s : State) :
    execAll (i :: is) s = execAll is (execState i s) := rfl
@[simp] theorem commandResponses_nil (s : State) : commandResponses [] s = [] := rfl
@[simp] theorem commandResponses_cons (i : Instr) (is : List Instr) (s : State) :
    commandResponses (i :: is) s = (execState i s).rsp :: commandResponses is (execState i s) := rfl

/-- The command of unit `u` that a sample has the block execute, if it has one. -/
def PortSample.unitInstr? (u : FuncUnit) (p : PortSample) : Option Instr := p.instr?.filter (·.unit == u)

theorem unitInstr?_eq_some {u : FuncUnit} {p : PortSample} {i : Instr} :
    p.unitInstr? u = some i ↔ p.instr? = some i ∧ i.unit = u := by
  simp [PortSample.unitInstr?, Option.filter_eq_some_iff]

theorem unitInstr?_eq_none {u : FuncUnit} {p : PortSample} :
    p.unitInstr? u = none ↔ ∀ i, p.instr? = some i → i.unit ≠ u := by
  simp [PortSample.unitInstr?, Option.filter_eq_none_iff]

theorem unitCommands_cons_of_some {u : FuncUnit} {p : PortSample} {i : Instr} (h : p.unitInstr? u = some i)
    (ps : List PortSample) : unitCommands u (p :: ps) = i :: unitCommands u ps :=
  List.filterMap_cons_some h

theorem unitCommands_cons_of_none {u : FuncUnit} {p : PortSample} (h : p.unitInstr? u = none) (ps : List PortSample) :
    unitCommands u (p :: ps) = unitCommands u ps :=
  List.filterMap_cons_none h

theorem unitResponses_cons_of_some {u : FuncUnit} {p : PortSample} {i : Instr} (h : p.unitInstr? u = some i)
    (ps : List PortSample) (r : RspWord) (rs : List (Option RspWord)) :
    unitResponses u (p :: ps) (some r :: rs) = r :: unitResponses u ps rs := by
  obtain ⟨hi, hu⟩ := unitInstr?_eq_some.mp h
  simp [unitResponses, unitResponse, hi, hu]

theorem unitResponses_cons_of_none {u : FuncUnit} {p : PortSample} (h : p.unitInstr? u = none) (ps : List PortSample)
    (r : Option RspWord) (rs : List (Option RspWord)) :
    unitResponses u (p :: ps) (r :: rs) = unitResponses u ps rs := by
  have hr : unitResponse u p r = none := by
    cases hi : p.instr? with
    | none => simp [unitResponse, hi]
    | some i => simp [unitResponse, hi, unitInstr?_eq_none.mp h i hi]
  simp [unitResponses, hr]

/-- The edge at a recognised command is `exec` of it (R24, R52). -/
theorem clockEdge_of_instr {p : PortSample} {i : Instr} (h : p.instr? = some i) (s : State) :
    clockEdge p s = .next (execState i s) := by
  obtain ⟨rst, valid, w⟩ := p
  cases hw : decode w <;> simp_all [PortSample.instr?, clockEdge, execWord, exec_eq_next]

/-- An edge without reset and without a recognised command writes the response port only: it is idle, or IllegalOpcode is raised. -/
theorem clockEdge_of_no_instr {p : PortSample} (hp : p.rst = false) (h : p.instr? = none) (s : State) :
    ∃ t, clockEdge p s = .next t ∧ t.inputs = s.inputs ∧ ∀ u, s.AgreeOn u t := by
  cases hv : p.cmdValid with
  | false => exact ⟨idleEdge s, by simp [clockEdge, hp, hv], rfl, fun u => .refl u s⟩
  | true =>
    cases hw : decode p.cmd with
    | ok i => simp [PortSample.instr?, hp, hv, hw] at h
    | error r =>
      have he : clockEdge p s = .next (latch (.err .illegalOpcode) s) := by simp [clockEdge, hp, hv, execWord_of_illegal hw]
      exact ⟨_, he, rfl, fun u => .refl u s⟩

/-- A sample without reset that holds no command of `u` leaves the registers of `u`: an idle edge, a refused word, or a command of
another unit. -/
theorem clockEdge_of_no_unitInstr {u : FuncUnit} {p : PortSample} (hp : p.rst = false) (h : p.unitInstr? u = none) (s : State) :
    ∃ t, clockEdge p s = .next t ∧ t.inputs = s.inputs ∧ s.AgreeOn u t := by
  cases hi : p.instr? with
  | some i =>
    have hu : u ≠ i.unit := (unitInstr?_eq_none.mp h i hi).symm
    exact ⟨_, clockEdge_of_instr hi s, by simp, (execState_sameOutside i s).agreeOn u hu⟩
  | none =>
    obtain ⟨t, ht, hin, hag⟩ := clockEdge_of_no_instr hp hi s
    exact ⟨t, ht, hin, hag u⟩

/-- A reset-free drive acts on a unit as its own commands do, from any state with the same registers in the unit. -/
theorem runPort_unit {u : FuncUnit} {ps : List PortSample} (hps : NoReset ps) {s s₀ : State} (h : s.AgreeOn u s₀) :
    ∃ t rs, runPort ps s = .next (t, rs) ∧ t.AgreeOn u (execAll (unitCommands u ps) s₀) ∧
      unitResponses u ps rs = commandResponses (unitCommands u ps) s₀ := by
  induction ps generalizing s s₀ with
  | nil => exact ⟨_, _, runPort_nil s, by simpa using h, by simp⟩
  | cons p ps ih =>
    obtain ⟨hp, hps⟩ := List.forall_mem_cons.mp hps
    cases hu : p.unitInstr? u with
    | some i =>
      obtain ⟨hi, rfl⟩ := unitInstr?_eq_some.mp hu
      obtain ⟨hag, hrsp⟩ := execState_congr (s := { s with inputs := ps }) h
      obtain ⟨t, rs, hrun, ht, hrs⟩ := ih hps hag
      refine ⟨t, _, runPort_cons (clockEdge_of_instr hi _) (by simp) hrun, ?_, ?_⟩
      · simpa [unitCommands_cons_of_some hu] using ht
      · simp [State.shown, unitCommands_cons_of_some hu, unitResponses_cons_of_some hu, hrs, hrsp]
    | none =>
      obtain ⟨v, hv, hin, hag⟩ := clockEdge_of_no_unitInstr hp hu { s with inputs := ps }
      obtain ⟨t, rs, hrun, ht, hrs⟩ := ih hps (hag.symm.trans h)
      refine ⟨t, _, runPort_cons hv hin hrun, ?_, ?_⟩
      · simpa [unitCommands_cons_of_none hu] using ht
      · simp [unitCommands_cons_of_none hu, unitResponses_cons_of_none hu, hrs]

/-- Settles O50: both drives act on the unit as the same list of commands does from `s'`. -/
theorem unitsAreIsolatedOverWholeRuns : Obligations.UnitsAreIsolatedOverWholeRuns := by
  unfold Obligations.UnitsAreIsolatedOverWholeRuns
  intro u s s' ps qs hps hqs hag hcmds
  obtain ⟨t, rs, hrun, ht, hrs⟩ := runPort_unit hps hag
  obtain ⟨t', rs', hrun', ht', hrs'⟩ := runPort_unit hqs (.refl u s')
  rw [hcmds] at ht hrs
  exact ⟨t, rs, t', rs', hrun, hrun', ht.trans ht'.symm, hrs.trans hrs'.symm⟩

/-! ### The counters (00_scope.md R8; 10_state.md R18; 43_bitunpack.md R102) -/

theorem countDown_of_pos {s : State} (h : 1 ≤ s.upRem.toNat) (y : Byte) : (countDown s y).toNat + 1 = s.upRem.toNat := by
  have hne : s.upRem ≠ 0x00#8 := by bv_omega
  simp only [countDown, hne, if_false]
  bv_omega

/-- Settles O47: the one arm of each command that counts does so away from the counter's end. -/
theorem countersNeverWrap : Obligations.CountersNeverWrap := by
  unfold Obligations.CountersNeverWrap
  refine ⟨fun arg s t ht hne => ?_, fun arg s t hinv hph ht hne => ?_⟩
  · obtain ⟨-, hn, rfl⟩ | ⟨-, hn, rfl⟩ | ⟨-, rfl⟩ := execPkBit_next ht
    · exact .inr ⟨hn, by simp⟩
    · refine .inl ?_
      simp only [latch_pkN]
      bv_omega
    · exact absurd rfl hne
  · obtain ⟨-, -, hdata, -⟩ := hinv
    have hpos := (hdata hph).1
    obtain ⟨-, hc, -⟩ | ⟨-, -, rfl⟩ | ⟨-, hd, -⟩ | ⟨-, rfl⟩ := execUpByte_next ht
    · simp [hph] at hc
    · exact ⟨hpos, countDown_of_pos hpos _⟩
    · simp [hph] at hd
    · exact absurd rfl hne

theorem execUpByte_of_data {arg : Word16} {s : State} (hl : arg.extractLsb' 8 8 = 0x00#8) (hph : s.upPh = .data) :
    execUpByte arg s = .next (latch (.val ((argByte arg).setWidth 16)) (takeData (argByte arg) s)) := by
  rw [execUpByte, checkOperand_of_legal (by simp [hl]), hph]
  rfl

/-- The phase ends only at the last declared byte. -/
theorem takeData_of_upRem_ne_one {s : State} (h : s.upRem ≠ 0x01#8) (y : Byte) :
    takeData y s = { s with upRem := countDown s y } := by
  simp [takeData, h]

/-- Settles O36: the new UPREM is the model's free value, and the phase does not end, as UPREM is not 1. -/
theorem upByteWithNoByteLeftCompletes : Obligations.UpByteWithNoByteLeftCompletes := by
  unfold Obligations.UpByteWithNoByteLeftCompletes
  intro arg s hl hph hrem
  refine ⟨countDown s (argByte arg), (execUpByte_of_data hl hph).trans ?_⟩
  rw [takeData_of_upRem_ne_one (by simp [hrem])]
  rfl

end Sys2Proof.Machine

/-! ### The clock edge (10_state.md R24, R25; 30_encoding.md R52) -/

namespace Sys2Proof.Machine

@[simp] theorem tableWord_toNat (w : CmdWord) : tableWord 24 w.toNat = w := by
  simp [tableWord, Nat.mod_eq_of_lt w.isLt]

theorem decodeTableWord_of_decode {w : CmdWord} {i : Instr} (h : decode w = .ok i) : decodeTableWord 24 w.toNat = some i := by
  simp [decodeTableWord, h]

/-- A step takes a presented word off the host's list and executes it. -/
theorem step_command {w : CmdWord} {s : State} {ps : List PortSample} (hs : s.inputs = .command w :: ps) :
    step s = execWord w { s with inputs := ps } :=
  step_word hs rfl rfl

/-- Settles O6: the edge is `execWord` of the word presented, and `withFetchWord` presents one before the host's list. -/
theorem stepRunsTheDecodedCommand : Obligations.StepRunsTheDecodedCommand := by
  unfold Obligations.StepRunsTheDecodedCommand
  refine ⟨fun w i s ps hw hs => ?_, fun w i s hw => ⟨decodeTableWord_of_decode hw, ?_⟩⟩
  · rw [step_command hs, execWord_of_ok hw]
  · rw [State.withFetchWord, tableWord_toNat, step_command (presentWord_inputs w s), execWord_of_ok hw]
    rfl

/-- `Exec` does not read the response port, and writes all of it (R24): what stood there before is lost. -/
theorem exec_setResponse (i : Instr) (s : State) (v : Bool) (r : RspWord) :
    exec i { s with rspV := v, rsp := r } = exec i s := by
  cases i <;> rfl

theorem execWord_setResponse (w : CmdWord) (s : State) (v : Bool) (r : RspWord) :
    execWord w { s with rspV := v, rsp := r } = execWord w s := by
  cases hw : decode w with
  | ok i => rw [execWord_of_ok hw, execWord_of_ok hw, exec_setResponse]
  | error e =>
    rw [execWord_of_illegal hw, execWord_of_illegal hw]
    rfl

/-- Settles O7: a valid word is executed, and `execWord` completes and does not read the response port; else the edge is idle. -/
theorem clockEdgeExecutesOrIdles : Obligations.ClockEdgeExecutesOrIdles := by
  unfold Obligations.ClockEdgeExecutesOrIdles
  refine fun s p ps hs hrst => ⟨fun hv => ⟨step_word hs hrst hv, ?_, fun v r => ?_⟩, fun hv => step_idle hs hrst hv⟩
  · obtain ⟨t, ht, hval, -⟩ := execWord_completes p.cmd { s with inputs := ps }
    exact ⟨t, (step_word hs hrst hv).trans ht, hval⟩
  · calc step { s with rspV := v, rsp := r }
        = execWord p.cmd { s with inputs := ps, rspV := v, rsp := r } := step_word (s := { s with rspV := v, rsp := r }) hs hrst hv
      _ = execWord p.cmd { s with inputs := ps } := execWord_setResponse p.cmd { s with inputs := ps } v r
      _ = step s := (step_word hs hrst hv).symm

/-! ### Reset values and INIT commands (10_state.md R26) -/

/-- Settles O9: every command completes, and what an INIT command writes is the reset value. -/
theorem resetStateIsEveryUnitsInitState : Obligations.ResetStateIsEveryUnitsInitState := by
  unfold Obligations.ResetStateIsEveryUnitsInitState
  refine ⟨by simp, fun s => ⟨?_, ?_, ?_, ?_⟩⟩
  · exact ⟨_, exec_eq_next (.crcInit 0x0000#16) s, rfl⟩
  · exact ⟨_, exec_eq_next (.lrcInit 0x0000#16) s, rfl⟩
  · exact ⟨_, exec_eq_next (.pkInit 0x0000#16) s, rfl, rfl⟩
  · exact ⟨_, exec_eq_next (.upInit 0x0000#16) s, rfl, rfl, rfl⟩

/-! ### The table (10_state.md R10, section 3) -/

theorem printedTable_length : printedTable.length = 256 := by
  simp only [printedTable, List.length_append, List.length_cons, List.length_nil]

/-- The two tables agree at every pair of nibbles. -/
theorem printedTable_at_nibbles (h l : Fin 16) :
    printedTable[16 * h.val + l.val]? = some (crcTable (BitVec.ofNat 8 (16 * h.val + l.val))) := by
  revert h l
  decide

/-- Settles O16: an index is its two nibbles. -/
theorem crcTableIsThePrintedTable : Obligations.CrcTableIsThePrintedTable := by
  unfold Obligations.CrcTableIsThePrintedTable
  refine ⟨printedTable_length, fun i => ?_⟩
  have h := printedTable_at_nibbles ⟨i.toNat / 16, by omega⟩ ⟨i.toNat % 16, by omega⟩
  rwa [Nat.div_add_mod, BitVec.ofNat_toNat, BitVec.setWidth_eq] at h

/-! ### The invariants of the registers (10_state.md R18)

`State.Inv` is a statement about the packer's registers and one about the unpacker's. A command of another unit leaves either as it
is (R2), so only the three commands of the packer, and the three of the unpacker, have a case of their own. -/

/-- I1 of R18: no bit at or above position PKN is pending. -/
def State.PackerInv (s : State) : Prop := s.pkAcc >>> s.pkN.toNat = 0x00#8

/-- I3, I4 and I5 of R18: UPCNT and UPREM in each phase. -/
def State.UnpackerInv (s : State) : Prop :=
  (s.upPh = .count → s.upCnt = 0x00#8 ∧ s.upRem = 0x00#8) ∧
  (s.upPh = .data → 1 ≤ s.upRem.toNat ∧ s.upRem.toNat ≤ s.upCnt.toNat) ∧
  (s.upPh = .done → s.upRem = 0x00#8)

theorem inv_iff (s : State) : s.Inv ↔ s.PackerInv ∧ s.UnpackerInv := Iff.rfl

theorem State.PackerInv.of_agreeOn {s t : State} (hs : s.PackerInv) (h : s.AgreeOn .packer t) : t.PackerInv := by
  obtain ⟨hacc, hn⟩ := h
  rwa [PackerInv, ← hacc, ← hn]

theorem State.UnpackerInv.of_agreeOn {s t : State} (hs : s.UnpackerInv) (h : s.AgreeOn .unpacker t) : t.UnpackerInv := by
  obtain ⟨hph, hcnt, hrem⟩ := h
  rwa [UnpackerInv, ← hph, ← hcnt, ← hrem]

theorem State.Inv.of_agreeOn {s t : State} (hs : s.Inv) (h : ∀ u, s.AgreeOn u t) : t.Inv := by
  obtain ⟨hpk, hup⟩ := (inv_iff s).mp hs
  exact (inv_iff t).mpr ⟨hpk.of_agreeOn (h .packer), hup.of_agreeOn (h .unpacker)⟩

theorem State.Inv.setInputs {s : State} (hs : s.Inv) (ps : List PortSample) : { s with inputs := ps }.Inv := hs

/-! #### The packer -/

theorem packerInv_of_pkAcc_zero {s : State} (h : s.pkAcc = 0x00#8) : s.PackerInv := by
  simp [State.PackerInv, h]

/-- A bit placed on top of `n` pending bits leaves nothing above it. -/
theorem placeBit_ushiftRight_succ {acc : Byte} {n : BitVec 3} (h : acc >>> n.toNat = 0x00#8) (v : BitVec 1) :
    placeBit acc n v >>> (n.toNat + 1) = 0x00#8 := by
  have hacc : acc >>> (n.toNat + 1) = 0x00#8 := by rw [BitVec.shiftRight_add, h, BitVec.zero_ushiftRight]
  have hbit : (v.setWidth 8 <<< n.toNat) >>> (n.toNat + 1) = 0x00#8 := by
    ext k hk
    simp [show n.toNat + 1 + k - n.toNat = k + 1 by omega]
  rw [placeBit, BitVec.ushiftRight_or_distrib, hacc, hbit, BitVec.or_zero]

theorem packerInv_execPkInit {arg : Word16} {s t : State} (hs : s.PackerInv) (h : execPkInit arg s = .next t) : t.PackerInv := by
  obtain ⟨-, rfl⟩ | ⟨-, rfl⟩ := execPkInit_next h
  · exact packerInv_of_pkAcc_zero rfl
  · exact hs

theorem packerInv_execPkBit {arg : Word16} {s t : State} (hs : s.PackerInv) (h : execPkBit arg s = .next t) : t.PackerInv := by
  obtain ⟨-, -, rfl⟩ | ⟨-, hn, rfl⟩ | ⟨-, rfl⟩ := execPkBit_next h
  · exact packerInv_of_pkAcc_zero rfl
  · have hsucc : (s.pkN + 1).toNat = s.pkN.toNat + 1 := by bv_omega
    rw [State.PackerInv, latch_pkAcc, latch_pkN, hsucc]
    exact placeBit_ushiftRight_succ hs _
  · exact hs

theorem packerInv_execPkFlush {arg : Word16} {s t : State} (hs : s.PackerInv) (h : execPkFlush arg s = .next t) :
    t.PackerInv := by
  obtain ⟨-, -, rfl⟩ | ⟨-, -, rfl⟩ | ⟨-, rfl⟩ := execPkFlush_next h
  · exact hs
  · exact packerInv_of_pkAcc_zero rfl
  · exact hs

theorem packerInv_execState (i : Instr) {s : State} (hs : s.PackerInv) : (execState i s).PackerInv := by
  by_cases hu : i.unit = .packer
  · cases i with
    | pkInit arg => exact packerInv_execPkInit hs (exec_eq_next (.pkInit arg) s)
    | pkBit arg => exact packerInv_execPkBit hs (exec_eq_next (.pkBit arg) s)
    | pkFlush arg => exact packerInv_execPkFlush hs (exec_eq_next (.pkFlush arg) s)
    | _ => cases hu
  · exact hs.of_agreeOn ((execState_sameOutside i s).agreeOn .packer (Ne.symm hu))

/-! #### The unpacker -/

theorem unpackerInv_takeCount (y : Byte) (s : State) : (takeCount y s).UnpackerInv := by
  by_cases hy : y = 0x00#8
  · simp [State.UnpackerInv, hy]
  · have : 1 ≤ y.toNat := by bv_omega
    simp [State.UnpackerInv, hy, this]

theorem unpackerInv_takeData {s : State} (hs : s.UnpackerInv) (hph : s.upPh = .data) (y : Byte) :
    (takeData y s).UnpackerInv := by
  obtain ⟨-, hdata, -⟩ := hs
  obtain ⟨hpos, hle⟩ := hdata hph
  have hdown := countDown_of_pos hpos y
  by_cases hone : s.upRem = 0x01#8
  · have hzero : countDown s y = 0x00#8 := by bv_omega
    simp [State.UnpackerInv, hone, hzero]
  · rw [takeData_of_upRem_ne_one hone]
    have hne : s.upRem.toNat ≠ 1 := fun h => hone (BitVec.eq_of_toNat_eq h)
    have hleft : 1 ≤ (countDown s y).toNat ∧ (countDown s y).toNat ≤ s.upCnt.toNat := by omega
    simpa [State.UnpackerInv, hph] using hleft

theorem unpackerInv_execUpInit {arg : Word16} {s t : State} (hs : s.UnpackerInv) (h : execUpInit arg s = .next t) :
    t.UnpackerInv := by
  obtain ⟨-, rfl⟩ | ⟨-, rfl⟩ := execUpInit_next h
  · simp [State.UnpackerInv]
  · exact hs

theorem unpackerInv_execUpByte {arg : Word16} {s t : State} (hs : s.UnpackerInv) (h : execUpByte arg s = .next t) :
    t.UnpackerInv := by
  obtain ⟨-, -, rfl⟩ | ⟨-, hph, rfl⟩ | ⟨-, -, rfl⟩ | ⟨-, rfl⟩ := execUpByte_next h
  · exact unpackerInv_takeCount _ s
  · exact unpackerInv_takeData hs hph _
  · exact hs
  · exact hs

theorem unpackerInv_execUpEnd {arg : Word16} {s t : State} (hs : s.UnpackerInv) (h : execUpEnd arg s = .next t) :
    t.UnpackerInv := by
  obtain ⟨-, -, rfl⟩ | ⟨-, -, rfl⟩ | ⟨-, rfl⟩ := execUpEnd_next h
  · exact hs
  · exact hs
  · exact hs

theorem unpackerInv_execState (i : Instr) {s : State} (hs : s.UnpackerInv) : (execState i s).UnpackerInv := by
  by_cases hu : i.unit = .unpacker
  · cases i with
    | upInit arg => exact unpackerInv_execUpInit hs (exec_eq_next (.upInit arg) s)
    | upByte arg => exact unpackerInv_execUpByte hs (exec_eq_next (.upByte arg) s)
    | upEnd arg => exact unpackerInv_execUpEnd hs (exec_eq_next (.upEnd arg) s)
    | _ => cases hu
  · exact hs.of_agreeOn ((execState_sameOutside i s).agreeOn .unpacker (Ne.symm hu))

/-! #### Every edge and every run -/

theorem inv_execState (i : Instr) {s : State} (hs : s.Inv) : (execState i s).Inv := by
  obtain ⟨hpk, hup⟩ := (inv_iff s).mp hs
  exact (inv_iff _).mpr ⟨packerInv_execState i hpk, unpackerInv_execState i hup⟩

/-- A reset edge needs nothing of the state before it. -/
theorem inv_resetEdge (s : State) : (resetEdge s).Inv := by
  simp [State.Inv]

theorem inv_clockEdge {p : PortSample} {s t : State} (hs : s.Inv) (h : clockEdge p s = .next t) : t.Inv := by
  cases hrst : p.rst with
  | true =>
    obtain rfl : resetEdge s = t := by simpa [clockEdge, hrst] using h
    exact inv_resetEdge s
  | false =>
    cases hi : p.instr? with
    | some i =>
      obtain rfl : execState i s = t := by simpa [clockEdge_of_instr hi] using h
      exact inv_execState i hs
    | none =>
      obtain ⟨v, hv, -, hag⟩ := clockEdge_of_no_instr hrst hi s
      obtain rfl : v = t := by simpa [hv] using h
      exact hs.of_agreeOn hag

theorem inv_step {s t : State} (hs : s.Inv) (h : step s = .next t) : t.Inv :=
  inv_clockEdge (p := (nextSample s.inputs).1) (hs.setInputs (nextSample s.inputs).2) h

theorem inv_runPort (ps : List PortSample) {s : State} (hs : s.Inv) : ∃ t rs, runPort ps s = .next (t, rs) ∧ t.Inv := by
  induction ps generalizing s with
  | nil => exact ⟨_, _, runPort_nil s, hs⟩
  | cons p ps ih =>
    obtain ⟨t, ht, hin⟩ := clockEdge_completes p { s with inputs := ps }
    obtain ⟨u, rs, hrun, hu⟩ := ih (inv_clockEdge (hs.setInputs ps) ht)
    exact ⟨u, _, runPort_cons ht hin hrun, hu⟩

/-- Settles O45: the edge keeps the invariants, and a drive that begins with a reset edge goes on from the reset values. -/
theorem registerInvariantsAreKept : Obligations.RegisterInvariantsAreKept := by
  unfold Obligations.RegisterInvariantsAreKept
  refine ⟨fun _ _ => inv_step, fun s p ps hrst => ?_⟩
  have hreset : clockEdge p { s with inputs := ps } = .next (resetEdge { s with inputs := ps }) := by simp [clockEdge, hrst]
  obtain ⟨t, rs, hrun, ht⟩ := inv_runPort ps (inv_resetEdge { s with inputs := ps })
  exact ⟨t, _, runPort_cons hreset rfl hrun, ht⟩

/-- Settles O46: a reset edge writes every register. -/
theorem resetMeetsTheInvariants : Obligations.ResetMeetsTheInvariants := by
  unfold Obligations.ResetMeetsTheInvariants
  exact ⟨inv_resetEdge State.reset, fun s p ps hs hrst => ⟨_, step_reset hs hrst, inv_resetEdge _⟩⟩

end Sys2Proof.Machine

/-! ### Queries (20_memory.md R37) -/

namespace Sys2Proof.Machine

theorem sameRegs_latch (r : Response) (s : State) : s.SameRegs (latch r s) := by
  simp [State.SameRegs]

theorem State.SameRegs.agreeOn {s t : State} (h : s.SameRegs t) (u : FuncUnit) : s.AgreeOn u t := by
  obtain ⟨hcrc, hlrc, hacc, hn, hph, hcnt, hrem⟩ := h
  cases u with
  | crc => exact hcrc
  | lrc => exact hlrc
  | packer => exact ⟨hacc, hn⟩
  | unpacker => exact ⟨hph, hcnt, hrem⟩

/-- Whatever a query answers, also when its operand is refused, it only latches a response. -/
theorem sameRegs_of_exec_query {i : Instr} {s t : State}
    (hq : ∃ a, i = .crcRd a ∨ i = .crcChk a ∨ i = .lrcRd a ∨ i = .lrcChk a ∨ i = .upEnd a) (h : exec i s = .next t) :
    s.SameRegs t := by
  obtain ⟨a, rfl | rfl | rfl | rfl | rfl⟩ := hq
  · obtain ⟨-, rfl⟩ | ⟨-, rfl⟩ := execCrcRd_next h <;> exact sameRegs_latch _ s
  · obtain rfl := execCrcChk_next h
    exact sameRegs_latch _ s
  · obtain ⟨-, rfl⟩ | ⟨-, rfl⟩ := execLrcRd_next h <;> exact sameRegs_latch _ s
  · obtain rfl := execLrcChk_next h
    exact sameRegs_latch _ s
  · obtain ⟨-, -, rfl⟩ | ⟨-, -, rfl⟩ | ⟨-, rfl⟩ := execUpEnd_next h <;> exact sameRegs_latch _ s

/-- A reset-free drive without a command of `u` leaves the registers of `u`. -/
theorem runPort_agreeOn_of_no_unitCommands {u : FuncUnit} {ps : List PortSample} (hps : NoReset ps)
    (hnone : unitCommands u ps = []) (s : State) : ∃ t rs, runPort ps s = .next (t, rs) ∧ s.AgreeOn u t := by
  obtain ⟨t, rs, hrun, ht, -⟩ := runPort_unit hps (.refl u s)
  rw [hnone, execAll_nil] at ht
  exact ⟨t, rs, hrun, ht.symm⟩

/-- Settles O49: the query leaves its unit's registers, the drive leaves them too, and the second answer is read from them alone. -/
theorem queriesWriteNothingAndRepeat : Obligations.QueriesWriteNothingAndRepeat := by
  unfold Obligations.QueriesWriteNothingAndRepeat
  intro i s t hq ht
  have hst : s.SameRegs t := sameRegs_of_exec_query hq ht
  refine ⟨hst, fun ps hps hnone => ?_⟩
  obtain ⟨u, rs, hrun, htu⟩ := runPort_agreeOn_of_no_unitCommands hps hnone t
  obtain ⟨-, hrsp⟩ := execState_congr ((hst.agreeOn i.unit).trans htu)
  rw [execState_of_exec ht] at hrsp
  exact ⟨u, rs, _, hrun, exec_eq_next i u, hrsp.symm⟩

end Sys2Proof.Machine

/-! ### The decoder and the encoder are inverse (30_encoding.md R45, R50, R51, R55) -/

namespace Sys2Proof

@[simp] theorem opField_encode (i : Instr) : opField (encode i) = i.op := opField_append _ _
@[simp] theorem argField_encode (i : Instr) : argField (encode i) = i.arg := argField_append _ _

/-- A row's match value is its opcode above a zero operand; the commands it makes have that opcode and the operand given. -/
theorem opcodeMap_row {r : OpRow} (hr : r ∈ opcodeMap) (arg : Word16) :
    r.mask = 0xFF0000#24 ∧ r.pattern = opField r.pattern ++ 0#16 ∧ (r.make arg).op = opField r.pattern ∧
      (r.make arg).arg = arg := by
  fin_cases hr <;> exact ⟨rfl, rfl, rfl, rfl⟩

theorem selects_iff_opField {r : OpRow} (hr : r ∈ opcodeMap) (w : CmdWord) :
    r.selects w = true ↔ opField w = opField r.pattern := by
  obtain ⟨hmask, hpattern, -, -⟩ := opcodeMap_row hr 0#16
  rw [selects_iff r w _ hmask hpattern, decide_eq_true_iff]

/-- A decoded command is made by a row that the word selects, from the word's operand field. -/
theorem row_of_decode {w : CmdWord} {i : Instr} (h : decode w = .ok i) :
    ∃ r ∈ opcodeMap, r.selects w = true ∧ i = r.make (argField w) := by
  unfold decode at h
  split at h
  case h_1 r hfind =>
    cases h
    exact ⟨r, List.mem_of_find?_eq_some hfind, List.find?_some (p := fun r => OpRow.selects r w) hfind, rfl⟩
  case h_2 => cases h

/-- The command a word decodes to has the word's two fields. -/
theorem fields_of_decode {w : CmdWord} {i : Instr} (h : decode w = .ok i) : opField w = i.op ∧ argField w = i.arg := by
  obtain ⟨r, hr, hsel, rfl⟩ := row_of_decode h
  obtain ⟨-, -, hop, harg⟩ := opcodeMap_row hr (argField w)
  exact ⟨((selects_iff_opField hr w).mp hsel).trans hop.symm, harg.symm⟩

@[simp] theorem decode_encode (i : Instr) : decode (encode i) = .ok i := by
  rw [decode_eq, opField_encode, argField_encode]
  cases i <;> rfl

theorem eq_encode_iff (w : CmdWord) (i : Instr) : w = encode i ↔ opField w = i.op ∧ argField w = i.arg := by
  constructor
  · rintro rfl
    exact ⟨opField_encode i, argField_encode i⟩
  · rintro ⟨hop, harg⟩
    rw [word_split w, hop, harg, encode]

theorem decode_eq_ok_iff (w : CmdWord) (i : Instr) : decode w = .ok i ↔ w = encode i :=
  ⟨fun h => (eq_encode_iff w i).mpr (fields_of_decode h), fun h => by rw [h, decode_encode]⟩

/-- Settles O4: a decoded command has the word's fields, and a word is its two fields. -/
theorem decodeAndEncodeAgreeOnEveryWord : Obligations.DecodeAndEncodeAgreeOnEveryWord := by
  unfold Obligations.DecodeAndEncodeAgreeOnEveryWord
  exact decode_eq_ok_iff

/-! ### The rows of the opcode map, and the opcodes outside it (30_encoding.md R50, R51) -/

theorem word_masked_eq_iff (w : CmdWord) (op : Byte) : w &&& 0xFF0000#24 = op ++ 0#16 ↔ opField w = op := by
  rw [word_masked]
  exact ⟨fun h => by simpa using congrArg opField h, fun h => by rw [h]⟩

/-- The match and mask columns of R50 pick the row's command, with the word's own operand. -/
theorem masked_eq_pattern_iff_decode {r : OpRow} (hr : r ∈ opcodeMap) (w : CmdWord) :
    w &&& 0xFF0000#24 = r.pattern ↔ decode w = .ok (r.make (argField w)) := by
  obtain ⟨-, hpattern, hop, harg⟩ := opcodeMap_row hr (argField w)
  rw [hpattern, word_masked_eq_iff, decode_eq_ok_iff, eq_encode_iff, hop, harg, and_iff_left rfl]

/-- Settles O2: the statement for every row of the map, row by row. -/
theorem opcodeMapRowsSelectTheirCommands : Obligations.OpcodeMapRowsSelectTheirCommands := by
  unfold Obligations.OpcodeMapRowsSelectTheirCommands
  intro w
  have rows : ∀ r ∈ opcodeMap, (w &&& 0xFF0000#24 = r.pattern ↔ decode w = .ok (r.make (argField w))) :=
    fun r hr => masked_eq_pattern_iff_decode hr w
  simpa only [opcodeMap, List.cons_append, List.nil_append, List.forall_mem_cons, List.not_mem_nil, false_implies, implies_true,
    and_true, argField, BitVec.ofNat_eq_ofNat] using rows

/-- The opcodes of the 14 rows. -/
def knownOpcodes : List Byte := opcodeMap.map fun r => opField r.pattern

theorem decode_error_iff (w : CmdWord) : (∃ r, decode w = .error r) ↔ opField w ∉ knownOpcodes := by
  have hmem : opField w ∈ knownOpcodes ↔ ∃ r ∈ opcodeMap, r.selects w = true := by
    simp only [knownOpcodes, List.mem_map]
    exact exists_congr fun r => and_congr_right fun hr => by rw [selects_iff_opField hr w, eq_comm]
  rw [hmem, decode]
  cases hfind : opcodeMap.find? (·.selects w) with
  | some r =>
    have hsel : r.selects w = true := List.find?_some (p := fun r => OpRow.selects r w) hfind
    simpa using ⟨r, List.mem_of_find?_eq_some hfind, hsel⟩
  | none => simpa using hfind

/-- The five ranges of R51 are what the 14 opcodes leave. -/
theorem not_mem_knownOpcodes_iff (op : Byte) :
    op ∉ knownOpcodes ↔ op.toNat ≤ 0x0F ∨ (0x14 ≤ op.toNat ∧ op.toNat ≤ 0x1F) ∨ (0x24 ≤ op.toNat ∧ op.toNat ≤ 0x2F) ∨
      (0x33 ≤ op.toNat ∧ op.toNat ≤ 0x3F) ∨ 0x43 ≤ op.toNat := by
  have hops : knownOpcodes = [0x10#8, 0x11#8, 0x12#8, 0x13#8, 0x20#8, 0x21#8, 0x22#8, 0x23#8, 0x30#8, 0x31#8, 0x32#8,
      0x40#8, 0x41#8, 0x42#8] := by rfl
  simp only [hops, List.mem_cons, List.not_mem_nil, or_false]
  bv_omega

end Sys2Proof

namespace Sys2Proof.Machine

/-- Settles O3: the opcode map leaves the five ranges, and the edge raises IllegalOpcode. -/
theorem illegalOpcodesAreRefusedWhateverTheOperand : Obligations.IllegalOpcodesAreRefusedWhateverTheOperand := by
  unfold Obligations.IllegalOpcodesAreRefusedWhateverTheOperand
  refine ⟨fun w => (decode_error_iff w).trans (not_mem_knownOpcodes_iff _), fun w r s ps hw hs => ?_⟩
  rw [step_command hs, execWord_of_illegal hw]
  rfl

/-! ### Every response is legal (30_encoding.md R46, R47; 60_exceptions.md R116) -/

theorem legalResponse_word (r : Response) : LegalResponse r.word := by
  cases r with
  | ack => exact .inl rfl
  | val v => exact .inr (.inl (rspKind_val v))
  | err e =>
    cases e with
    | illegalOpcode => exact .inr (.inr (.inl rfl))
    | badOperand => exact .inr (.inr (.inr (.inl rfl)))
    | formatError => exact .inr (.inr (.inr (.inr rfl)))

theorem portLegal_latch (r : Response) (s : State) : (latch r s).PortLegal :=
  ⟨fun _ => legalResponse_word r, nofun⟩

theorem portLegal_of_idle {s : State} (hv : s.rspV = false) (hr : s.rsp = 0x00000#20) : s.PortLegal :=
  ⟨by simp [hv], fun _ => hr⟩

/-- The result ends in `respond`: one of the responses of R47 is latched. -/
def Responds (res : Result) : Prop := ∃ r s, res = respond r s

theorem Responds.respond (r : Response) (s : State) : Responds (respond r s) := ⟨r, s, rfl⟩

theorem Responds.raise (e : CmdError) (s : State) : Responds (raise e s) := .respond (.err e) s

theorem Responds.checkOperand {fmt : Format} {arg : Word16} {s : State} {ok : Result} (h : Responds ok) :
    Responds (checkOperand fmt arg s ok) := by
  cases hl : operandLegal fmt arg
  · rw [checkOperand_of_illegal hl]
    exact .raise .badOperand s
  · rwa [checkOperand_of_legal hl]

theorem Responds.portLegal {res : Result} {t : State} (hres : Responds res) (h : res = .next t) : t.PortLegal := by
  obtain ⟨r, s, rfl⟩ := hres
  rw [respond_next h]
  exact portLegal_latch r s

theorem execPkBit_responds (arg : Word16) (s : State) : Responds (execPkBit arg s) := by
  refine .checkOperand ?_
  split
  · exact .respond _ _
  · exact .respond _ _

theorem execPkFlush_responds (arg : Word16) (s : State) : Responds (execPkFlush arg s) := by
  refine .checkOperand ?_
  split
  · exact .respond _ _
  · exact .respond _ _

theorem execUpByte_responds (arg : Word16) (s : State) : Responds (execUpByte arg s) := by
  refine .checkOperand ?_
  split
  · exact .respond _ _
  · exact .respond _ _
  · exact .respond _ _

theorem execUpEnd_responds (arg : Word16) (s : State) : Responds (execUpEnd arg s) := by
  refine .checkOperand ?_
  split
  · exact .respond _ _
  · exact .raise _ _
  · exact .raise _ _

theorem exec_responds (i : Instr) (s : State) : Responds (exec i s) := by
  cases i with
  | crcInit | crcRd | lrcInit | lrcUpd | lrcRd | pkInit | upInit => exact .checkOperand (.respond _ _)
  | crcUpd | crcChk | lrcChk => exact .respond _ _
  | pkBit arg => exact execPkBit_responds arg s
  | pkFlush arg => exact execPkFlush_responds arg s
  | upByte arg => exact execUpByte_responds arg s
  | upEnd arg => exact execUpEnd_responds arg s

theorem execWord_responds (w : CmdWord) (s : State) : Responds (execWord w s) := by
  cases hw : decode w with
  | ok i =>
    rw [execWord_of_ok hw]
    exact exec_responds i s
  | error r =>
    rw [execWord_of_illegal hw]
    exact .raise .illegalOpcode s

theorem portLegal_clockEdge {p : PortSample} {s t : State} (h : clockEdge p s = .next t) : t.PortLegal := by
  unfold clockEdge at h
  split at h
  · cases h
    exact portLegal_of_idle rfl rfl
  split at h
  · exact (execWord_responds p.cmd s).portLegal h
  · cases h
    exact portLegal_of_idle rfl rfl

/-- Settles O44: an edge latches a response of R47, or clears the port. -/
theorem everyResponseIsLegal : Obligations.EveryResponseIsLegal := by
  unfold Obligations.EveryResponseIsLegal
  exact fun _ _ => portLegal_clockEdge

end Sys2Proof.Machine

/-! ### Text: a written command reads back as its own word (30_encoding.md R56)

`renderLine` writes one word, or two with a space between. Both are plain: nothing in them separates words or starts a comment, so
`assembleLine` reads the same words back. -/

namespace Sys2Proof.Machine

/-! #### The words of a line -/

/-- `c` neither separates words nor may start a comment. -/
def plainChar (c : Char) : Bool := c != ' ' && c != '\t' && c != '-'

/-- `t` is one word of a line. -/
def PlainWord (t : List Char) : Prop := t ≠ [] ∧ ∀ c ∈ t, plainChar c = true

theorem stripComment_of_no_dash {l : List Char} (h : '-' ∉ l) : stripComment l = l := by
  induction l with
  | nil => rfl
  | cons c cs ih =>
    obtain ⟨hc, hcs⟩ := List.ne_and_not_mem_of_not_mem_cons h
    rw [stripComment, ih hcs]
    exact fun _ hdash _ => hc hdash.symm

theorem PlainWord.no_dash {t : List Char} (h : PlainWord t) : '-' ∉ t := fun hd => by
  simpa [plainChar] using h.2 _ hd

/-- A plain word is gathered whole, up to the end of the line. -/
theorem tokens_plain {t : List Char} (h : ∀ c ∈ t, plainChar c = true) (cur : List Char) :
    tokens cur t = flushToken (cur ++ t) := by
  induction t generalizing cur with
  | nil => simp [tokens]
  | cons c cs ih =>
    obtain ⟨hc, hcs⟩ := List.forall_mem_cons.mp h
    simp only [plainChar, Bool.and_eq_true, bne_iff_ne] at hc
    obtain ⟨⟨hs, ht⟩, -⟩ := hc
    simp [tokens, hs, ht, ih hcs]

/-- A plain word is gathered whole, up to a space. -/
theorem tokens_plain_space {t : List Char} (h : ∀ c ∈ t, plainChar c = true) (cur rest : List Char) :
    tokens cur (t ++ ' ' :: rest) = flushToken (cur ++ t) ++ tokens [] rest := by
  induction t generalizing cur with
  | nil => simp [tokens]
  | cons c cs ih =>
    obtain ⟨hc, hcs⟩ := List.forall_mem_cons.mp h
    simp only [plainChar, Bool.and_eq_true, bne_iff_ne] at hc
    obtain ⟨⟨hs, ht⟩, -⟩ := hc
    simp [tokens, hs, ht, ih hcs]

theorem assembleLine_one_word {t : List Char} (h : PlainWord t) : assembleLine t = assembleTokens [t] := by
  have ⟨hne, hplain⟩ := h
  rw [assembleLine, stripComment_of_no_dash h.no_dash, tokens_plain hplain]
  simp [flushToken, hne]

theorem assembleLine_two_words {t a : List Char} (ht : PlainWord t) (ha : PlainWord a) :
    assembleLine (t ++ ' ' :: a) = assembleTokens [t, a] := by
  have hdash : '-' ∉ t ++ ' ' :: a := by simp [ht.no_dash, ha.no_dash]
  obtain ⟨hte, htp⟩ := ht
  obtain ⟨hae, hap⟩ := ha
  rw [assembleLine, stripComment_of_no_dash hdash, tokens_plain_space htp, tokens_plain hap]
  simp [flushToken, hte, hae]

/-! #### Numbers -/

theorem digitValue?_hexChar (n : Fin 16) : digitValue? 16 (hexChar n) = some n.val := by
  revert n
  decide

theorem plainChar_hexChar (n : Fin 16) : plainChar (hexChar n) = true := by
  revert n
  decide

theorem digits?_append (base acc : Nat) (xs ys : List Char) :
    digits? base acc (xs ++ ys) = (digits? base acc xs).bind fun v => digits? base v ys := by
  induction xs generalizing acc with
  | nil => rfl
  | cons c cs ih => cases h : digitValue? base c <;> simp [digits?, h, ih]

theorem digits?_hexDigits (k v acc : Nat) : digits? 16 acc (hexDigits k v) = some (acc * 16 ^ k + v % 16 ^ k) := by
  induction k generalizing v with
  | zero => simp [hexDigits, digits?, Nat.mod_one]
  | succ k ih =>
    have hlow : digitValue? 16 (hexChar (v % 16)) = some (v % 16) := digitValue?_hexChar ⟨v % 16, by omega⟩
    have hsplit : v % 16 ^ (k + 1) = v % 16 + 16 * (v / 16 % 16 ^ k) := by rw [pow_succ', Nat.mod_mul]
    simp only [hexDigits, digits?_append, ih, Option.bind_some, digits?, hlow, hsplit, Option.some.injEq]
    ring

theorem plainChar_of_mem_hexDigits {k v : Nat} {c : Char} (h : c ∈ hexDigits k v) : plainChar c = true := by
  induction k generalizing v with
  | zero => cases h
  | succ k ih =>
    rw [hexDigits, List.mem_append, List.mem_singleton] at h
    obtain h | rfl := h
    · exact ih h
    · exact plainChar_hexChar ⟨v % 16, by omega⟩

theorem plainWord_hex (k v : Nat) : PlainWord ('0' :: 'x' :: hexDigits k v) := by
  refine ⟨nofun, ?_⟩
  simp only [List.forall_mem_cons]
  exact ⟨rfl, rfl, fun _ => plainChar_of_mem_hexDigits⟩

theorem number?_hex {k v : Nat} (hv : v < 16 ^ (k + 1)) : number? ('0' :: 'x' :: hexDigits (k + 1) v) = some v := by
  obtain ⟨c, cs, hcs⟩ := List.exists_cons_of_ne_nil (l := hexDigits (k + 1) v) (by simp [hexDigits])
  rw [hcs, number?, ← hcs, digits?_hexDigits, Nat.mod_eq_of_lt hv, Nat.zero_mul, Nat.zero_add]

/-- The two operands of format F are written as one digit. -/
theorem number?_bit (n : Fin 2) : number? [hexChar n] = some n.val ∧ plainChar (hexChar n) = true := by
  revert n
  decide

/-! #### Commands and raw words -/

/-- Every command is made by a row of the map. -/
theorem exists_row (i : Instr) : ∃ r ∈ opcodeMap, i = r.make i.arg := by
  obtain ⟨r, hr, -, hi⟩ := row_of_decode (decode_encode i)
  exact ⟨r, hr, by rwa [argField_encode] at hi⟩

/-- The commands of a row are written with the row's mnemonic and in its format. -/
theorem mnemonic_format_of_row {r : OpRow} (hr : r ∈ opcodeMap) (arg : Word16) :
    mnemonic (r.make arg) = r.mnemonic ∧ (r.make arg).format = r.format := by
  fin_cases hr <;> exact ⟨rfl, rfl⟩

theorem plainWord_mnemonic {r : OpRow} (hr : r ∈ opcodeMap) : PlainWord r.mnemonic.toList := by
  fin_cases hr <;> exact ⟨by decide, by simp [plainChar]⟩

/-- A mnemonic finds its own row. -/
theorem assembleTokens_mnemonic {r : OpRow} (hr : r ∈ opcodeMap) (args : List (List Char)) :
    assembleTokens (r.mnemonic.toList :: args) = assembleRow r args := by
  fin_cases hr <;> rfl

theorem assembleRow_operand {r : OpRow} {a : List Char} {n : Nat} (hz : r.format ≠ .z) (ha : number? a = some n)
    (hn : n < operandCount r.format) : assembleRow r [a] = .word (encode (r.make (BitVec.ofNat 16 n))) := by
  unfold assembleRow
  split <;> simp_all

/-- A legal operand is one of its format's values. -/
theorem toNat_lt_operandCount {fmt : Format} {arg : Word16} (h : operandLegal fmt arg = true) : arg.toNat < operandCount fmt := by
  cases fmt with
  | z =>
    obtain rfl : arg = 0#16 := by simpa using h
    decide
  | w => exact arg.isLt
  | b =>
    have hhigh : arg.extractLsb' 8 8 = 0#8 := by simpa using h
    have := congrArg BitVec.toNat hhigh
    simp only [BitVec.extractLsb'_toNat, BitVec.toNat_ofNat, Nat.shiftRight_eq_div_pow] at this
    simp only [operandCount]
    omega
  | f =>
    have hhigh : arg.extractLsb' 1 15 = 0#15 := by simpa using h
    have := congrArg BitVec.toNat hhigh
    simp only [BitVec.extractLsb'_toNat, BitVec.toNat_ofNat, Nat.shiftRight_eq_div_pow] at this
    simp only [operandCount]
    omega

/-- A command with an operand is written as its mnemonic, a space, and a number that reads as the operand. -/
theorem operandText_eq {i : Instr} (hz : i.format ≠ .z) (hlt : i.arg.toNat < operandCount i.format) :
    ∃ a, operandText i = ' ' :: a ∧ PlainWord a ∧ number? a = some i.arg.toNat := by
  unfold operandText
  split
  case h_1 h => exact absurd h hz
  case h_2 h => exact ⟨_, rfl, plainWord_hex _ _, number?_hex (by simpa [h, operandCount] using hlt)⟩
  case h_3 h => exact ⟨_, rfl, plainWord_hex _ _, number?_hex (by simpa [h, operandCount] using hlt)⟩
  case h_4 h =>
    obtain ⟨hn, hp⟩ := number?_bit ⟨i.arg.toNat, by simpa [h, operandCount] using hlt⟩
    exact ⟨_, rfl, ⟨nofun, by simpa using hp⟩, hn⟩

theorem assembleLine_renderLine_of_wf {i : Instr} (hwf : i.wf = true) : assembleLine (renderLine i) = .word (encode i) := by
  have hlegal : operandLegal i.format i.arg = true := (operandLegal_eq_wf i).trans hwf
  have hlt := toNat_lt_operandCount hlegal
  obtain ⟨r, hr, hi⟩ := exists_row i
  obtain ⟨hmn, hfmt⟩ := mnemonic_format_of_row hr i.arg
  rw [← hi] at hmn hfmt
  rw [renderLine, if_pos hwf, hmn]
  by_cases hz : i.format = .z
  · have hzero : i.arg = 0x0000#16 := by simpa [hz] using hlegal
    have htext : operandText i = [] := by simp [operandText, hz]
    rw [htext, List.append_nil, assembleLine_one_word (plainWord_mnemonic hr), assembleTokens_mnemonic hr]
    simp [assembleRow, ← hfmt, hz, ← hzero, ← hi]
  · obtain ⟨a, htext, hplain, hnum⟩ := operandText_eq hz hlt
    rw [hfmt] at hz hlt
    rw [htext, assembleLine_two_words (plainWord_mnemonic hr) hplain, assembleTokens_mnemonic hr,
      assembleRow_operand hz hnum hlt, BitVec.ofNat_toNat, BitVec.setWidth_eq, ← hi]

theorem assembleTokens_rawWord {a : List Char} {w : CmdWord} (ha : number? a = some w.toNat) :
    assembleTokens [".word".toList, a] = .word w := by
  simp only [assembleTokens, if_true, ha, w.isLt, BitVec.ofNat_toNat, BitVec.setWidth_eq]

theorem assembleLine_renderLine_of_not_wf {i : Instr} (hwf : i.wf = false) : assembleLine (renderLine i) = .word (encode i) := by
  have hword : PlainWord ".word".toList := ⟨by decide, by simp [plainChar]⟩
  rw [renderLine, if_neg (by simp [hwf]), assembleLine_two_words hword (plainWord_hex _ _),
    assembleTokens_rawWord (number?_hex (encode i).isLt)]

/-- Settles O5: a well-formed command reads back through its mnemonic's row, any other through `.word`. -/
theorem assemblerReadsBackWrittenCommands : Obligations.AssemblerReadsBackWrittenCommands := by
  unfold Obligations.AssemblerReadsBackWrittenCommands
  intro i
  cases hwf : i.wf with
  | true => exact assembleLine_renderLine_of_wf hwf
  | false => exact assembleLine_renderLine_of_not_wf hwf

end Sys2Proof.Machine

/-! ### A run of commands at consecutive edges (20_memory.md R39; 30_encoding.md R57) -/

namespace Sys2Proof.Machine

@[simp] theorem instr?_ofInstr (i : Instr) : (PortSample.ofInstr i).instr? = some i := by
  simp [PortSample.ofInstr, PortSample.command, PortSample.instr?]

theorem execState_agreeOn {i : Instr} {s s' : State} (h : ∀ u, s.AgreeOn u s') (u : FuncUnit) :
    (execState i s).AgreeOn u (execState i s') := by
  by_cases hu : u = i.unit
  · subst hu
    exact (execState_congr (h i.unit)).1
  · have hs := (execState_sameOutside i s).agreeOn u hu
    have hs' := (execState_sameOutside i s').agreeOn u hu
    exact hs.symm.trans ((h u).trans hs')

/-- Commands presented one an edge answer as they do one after the other. -/
theorem runPort_ofInstr (is : List Instr) {s s₀ : State} (h : ∀ u, s.AgreeOn u s₀) :
    ∃ t, runPort (is.map PortSample.ofInstr) s = .next (t, (commandResponses is s₀).map some) := by
  induction is generalizing s s₀ with
  | nil => exact ⟨_, runPort_nil s⟩
  | cons i is ih =>
    have hps : ∀ u, { s with inputs := is.map PortSample.ofInstr }.AgreeOn u s₀ :=
      fun u => (agreeOn_setInputs_left u _ _ _).mpr (h u)
    obtain ⟨-, hrsp⟩ := execState_congr (hps i.unit)
    obtain ⟨t, hrun⟩ := ih (execState_agreeOn hps)
    have hrun' := runPort_cons (clockEdge_of_instr (instr?_ofInstr i) _) (execState_inputs i _) hrun
    rw [State.shown, execState_rspV, if_pos rfl, hrsp] at hrun'
    exact ⟨t, hrun'⟩

theorem execAll_append (is js : List Instr) (s : State) : execAll (is ++ js) s = execAll js (execAll is s) :=
  List.foldl_append

theorem commandResponses_append (is js : List Instr) (s : State) :
    commandResponses (is ++ js) s = commandResponses is s ++ commandResponses js (execAll is s) := by
  induction is generalizing s with
  | nil => rfl
  | cons i is ih => simp [ih]

/-- The responses to an expansion of R57: the unit's INIT command, one command an element, and a command that ends it. -/
theorem commandResponses_expansion (init last : Instr) (is : List Instr) (s : State) :
    commandResponses (init :: is ++ [last]) s =
      (execState init s).rsp :: commandResponses is (execState init s) ++
        [(execState last (execAll is (execState init s))).rsp] := by
  simp [commandResponses_append]

theorem getLastD_expansion (init last : Instr) (is : List Instr) (s : State) (r : RspWord) :
    (commandResponses (init :: is ++ [last]) s).getLastD r = (execState last (execAll is (execState init s))).rsp := by
  rw [commandResponses_expansion, List.getLastD_eq_getLast?, List.getLast?_concat, Option.getD_some]

/-! ### The commands of the CRC and LRC expansions (30_encoding.md R57) -/

@[simp] theorem setWidth_highByte (e : Byte) : (e.setWidth 16).extractLsb' 8 8 = 0x00#8 := by
  ext k hk
  simp

@[simp] theorem setWidth_lowByte (e : Byte) : (e.setWidth 16).extractLsb' 0 8 = e := by
  ext k hk
  simp [show k < 16 by omega, BitVec.getLsbD_eq_getElem hk]

@[simp] theorem argByte_setWidth (e : Byte) : argByte (e.setWidth 16) = e := setWidth_lowByte e

theorem execState_crcInit (s : State) : execState (.crcInit 0x0000#16) s = latch .ack { s with crc := Config.seed } := rfl
theorem execState_crcUpd (arg : Word16) (s : State) :
    execState (.crcUpd arg) s = latch .ack { s with crc := crcFold s.crc (argByte arg) } := rfl
theorem execState_crcRd (s : State) : execState (.crcRd 0x0000#16) s = latch (.val s.crc) s := rfl
theorem execState_crcChk (arg : Word16) (s : State) :
    execState (.crcChk arg) s = latch (.val (boolVal (s.crc == arg))) s := rfl

theorem execState_lrcInit (s : State) : execState (.lrcInit 0x0000#16) s = latch .ack { s with lrc := Config.lrcSeed } := rfl
theorem execState_lrcUpd (e : Byte) (s : State) :
    execState (.lrcUpd (e.setWidth 16)) s = latch .ack { s with lrc := s.lrc ^^^ e } := by
  apply execState_of_exec
  rw [exec, execLrcUpd, checkOperand_of_legal (by simp), argByte_setWidth, respond]
theorem execState_lrcRd (s : State) : execState (.lrcRd 0x0000#16) s = latch (.val (s.lrc.setWidth 16)) s := rfl
theorem execState_lrcChk (arg : Word16) (s : State) :
    execState (.lrcChk arg) s = latch (.val (boolVal (s.lrc.setWidth 16 == arg))) s := rfl

/-! ### computeCRC and checkCRC (40_crc16.md R66, R67, R72) -/

theorem crcFold_argByte (c arg : Word16) : crcFold c (argByte arg) = crcStep c arg.toNat := by
  have : argByte arg = BitVec.ofNat 8 (arg.toNat % 256) := by
    apply BitVec.eq_of_toNat_eq
    simp [argByte]
  rw [crcFold, crcStep, this]

theorem execAll_crcUpd (d : List Word16) (s : State) :
    (execAll (d.map .crcUpd) s).crc = (d.map BitVec.toNat).foldl crcStep s.crc := by
  induction d generalizing s with
  | nil => rfl
  | cons e d ih => simp [ih, execState_crcUpd, crcFold_argByte]

theorem crc_afterElements (d : List Word16) (s : State) :
    (execAll (d.map .crcUpd) (execState (.crcInit 0x0000#16) s)).crc = computeCRC (d.map BitVec.toNat) :=
  execAll_crcUpd d _

@[simp] theorem getLsbD_boolVal (b : Bool) : (boolVal b).getLsbD 0 = b := by
  cases b <;> rfl

theorem toNat_beq {n : Nat} (v w : BitVec n) : (v.toNat == w.toNat) = (v == w) := by
  rw [Bool.eq_iff_iff, beq_iff_eq, beq_iff_eq, BitVec.toNat_inj]

theorem result_computeCRC (d : List Word16) (s : State) :
    (Macro.computeCRC d).result (commandResponses (Macro.computeCRC d).expand s) = (Macro.computeCRC d).reference := by
  rw [Macro.result, Macro.expand, getLastD_expansion, execState_crcRd, latch_rsp, rspVal_val, crc_afterElements, Macro.reference]

theorem result_checkCRC (d : List Word16) (x : Word16) (s : State) :
    (Macro.checkCRC d x).result (commandResponses (Macro.checkCRC d x).expand s) = (Macro.checkCRC d x).reference := by
  rw [Macro.result, Macro.expand, getLastD_expansion, execState_crcChk, latch_rsp, rspVal_val, getLsbD_boolVal, crc_afterElements,
    Macro.reference, checkCRC, toNat_beq]

/-! ### computeLRC and checkLRC (41_lrc.md R80, R81, R87) -/

theorem execAll_lrcUpd (d : List Byte) (s : State) :
    (execAll (d.map fun e => .lrcUpd (e.setWidth 16)) s).lrc = d.foldl (· ^^^ ·) s.lrc := by
  induction d generalizing s with
  | nil => rfl
  | cons e d ih => simp [ih, execState_lrcUpd]

theorem lrc_afterElements (d : List Byte) (s : State) :
    (execAll (d.map fun e => .lrcUpd (e.setWidth 16)) (execState (.lrcInit 0x0000#16) s)).lrc = computeLRC d :=
  execAll_lrcUpd d _

theorem result_computeLRC (d : List Byte) (s : State) :
    (Macro.computeLRC d).result (commandResponses (Macro.computeLRC d).expand s) = (Macro.computeLRC d).reference := by
  rw [Macro.result, Macro.expand, getLastD_expansion, execState_lrcRd, latch_rsp, rspVal_val, setWidth_lowByte, lrc_afterElements,
    Macro.reference]

theorem result_checkLRC (d : List Byte) (x : Word16) (s : State) :
    (Macro.checkLRC d x).result (commandResponses (Macro.checkLRC d x).expand s) = (Macro.checkLRC d x).reference := by
  have hwide : ((computeLRC d).setWidth 16).toNat = (computeLRC d).toNat := BitVec.toNat_setWidth_of_le (by decide)
  rw [Macro.result, Macro.expand, getLastD_expansion, execState_lrcChk, latch_rsp, rspVal_val, getLsbD_boolVal, lrc_afterElements,
    Macro.reference, checkLRC, ← hwide, toNat_beq]

/-! ### The byte in a response (30_encoding.md R47, R59) -/

@[simp] theorem valByte?_ack : valByte? (Response.word .ack) = none := rfl

@[simp] theorem valByte?_val (y : Byte) : valByte? (Response.word (.val (y.setWidth 16))) = some y := by
  simp [valByte?]

/-! ### The bits of a packed byte (42_bitpack.md R90) -/

/-- Setting the bits `j < n` with `f j`, one after the other. -/
theorem getLsbD_foldl_setBit (f : Nat → Bool) {n : Nat} (hn : n ≤ 8) (j : Nat) :
    ((List.range n).foldl (fun y j => if f j then y ||| (1#8 <<< j) else y) 0#8).getLsbD j = (decide (j < n) && f j) := by
  induction n with
  | zero => simp
  | succ n ih =>
    rw [List.range_succ, List.foldl_append, List.foldl_cons, List.foldl_nil]
    have ih := ih (by omega)
    by_cases hj : j = n
    · subst hj
      cases hf : f j <;> simp_all
    · have hlt : j < n + 1 ↔ j < n := by omega
      have hbit : (1#8 <<< n).getLsbD j = false := by
        simp [BitVec.getLsbD_one]
        omega
      split
      · simp only [BitVec.getLsbD_or, ih, hbit, Bool.or_false, hlt]
      · simp only [ih, hlt]

theorem getLsbD_packGroup (b : List Bool) (k j : Nat) :
    (packGroup b k).getLsbD j = (decide (j < 8) && b.getD (8 * k + j) false) :=
  getLsbD_foldl_setBit (fun j => b.getD (8 * k + j) false) (Nat.le_refl 8) j

@[simp] theorem argBit_bitOperand (v : Bool) : argBit (bitOperand v) = BitVec.ofBool v := by
  cases v <;> rfl

/-- A group that is full stays as it is. -/
theorem packGroup_concat_of_lt {b : List Bool} {k : Nat} (hk : k < b.length / 8) (v : Bool) :
    packGroup (b ++ [v]) k = packGroup b k := by
  apply BitVec.eq_of_getLsbD_eq
  intro j hj
  rw [getLsbD_packGroup, getLsbD_packGroup, List.getD_append _ _ _ _ (by omega)]

/-- The next bit goes on top of the pending ones (R92). -/
theorem packGroup_concat_last {b : List Bool} {n : BitVec 3} (hn : n.toNat = b.length % 8) (v : Bool) :
    packGroup (b ++ [v]) (b.length / 8) = placeBit (packGroup b (b.length / 8)) n (BitVec.ofBool v) := by
  apply BitVec.eq_of_getLsbD_eq
  intro j hj
  rw [placeBit, BitVec.getLsbD_or, getLsbD_packGroup, getLsbD_packGroup, BitVec.getLsbD_shiftLeft, hn]
  obtain hlt | heq | hgt : j < b.length % 8 ∨ j = b.length % 8 ∨ b.length % 8 < j := by omega
  · simp [hj, hlt, List.getElem?_append_left (show 8 * (b.length / 8) + j < b.length by omega)]
  · simp [heq, Nat.div_add_mod]
  · have hout : b.length + 1 ≤ 8 * (b.length / 8) + j := by omega
    have hb : b[8 * (b.length / 8) + j]? = none := List.getElem?_eq_none (by omega)
    have hbv : (b ++ [v])[8 * (b.length / 8) + j]? = none := List.getElem?_eq_none (by simpa using hout)
    simp [hb, hbv, show j - b.length % 8 ≠ 0 by omega]

/-- The bytes of the groups that are full. -/
def fullBytes (b : List Bool) : List Byte := (List.range (b.length / 8)).map (packGroup b)

theorem map_packGroup_concat (b : List Bool) (v : Bool) :
    (List.range (b.length / 8)).map (packGroup (b ++ [v])) = fullBytes b :=
  List.map_congr_left fun _ hk => packGroup_concat_of_lt (List.mem_range.mp hk) v

theorem fullBytes_concat_of_full {b : List Bool} (h : b.length % 8 = 7) (v : Bool) :
    fullBytes (b ++ [v]) = fullBytes b ++ [packGroup (b ++ [v]) (b.length / 8)] := by
  have hlen : (b ++ [v]).length / 8 = b.length / 8 + 1 := by simp; omega
  rw [fullBytes, hlen, List.range_succ, List.map_append, map_packGroup_concat, List.map_singleton]

theorem fullBytes_concat_of_room {b : List Bool} (h : b.length % 8 ≠ 7) (v : Bool) : fullBytes (b ++ [v]) = fullBytes b := by
  have hlen : (b ++ [v]).length / 8 = b.length / 8 := by simp; omega
  rw [fullBytes, hlen, map_packGroup_concat]

theorem packBits_eq_fullBytes_append (b : List Bool) :
    packBits b = fullBytes b ++ if b.length % 8 = 0 then [] else [packGroup b (b.length / 8)] := by
  split
  next h =>
    have hlen : ceilDiv8 b.length = b.length / 8 := by unfold ceilDiv8; omega
    rw [packBits, hlen, fullBytes, List.append_nil]
  next h =>
    have hlen : ceilDiv8 b.length = b.length / 8 + 1 := by unfold ceilDiv8; omega
    rw [packBits, hlen, List.range_succ, List.map_append, fullBytes, List.map_singleton]

/-! ### packBits (42_bitpack.md R92, R93, R96) -/

/-- What is pending after the bits `b` (R95): those that fill no group. -/
def State.Packed (s : State) (b : List Bool) : Prop := s.pkN.toNat = b.length % 8 ∧ s.pkAcc = packGroup b (b.length / 8)

theorem execState_pkInit (s : State) : execState (.pkInit 0x0000#16) s = latch .ack (clearPacker s) := rfl

theorem execState_pkBit_of_full {s : State} (h : s.pkN = 7#3) (v : Bool) :
    execState (.pkBit (bitOperand v)) s =
      latch (.val ((placeBit s.pkAcc s.pkN (BitVec.ofBool v)).setWidth 16)) (clearPacker s) := by
  apply execState_of_exec
  rw [exec, execPkBit, checkOperand_of_legal (by cases v <;> rfl), if_pos h, argBit_bitOperand, respond]

theorem execState_pkBit_of_room {s : State} (h : s.pkN ≠ 7#3) (v : Bool) :
    execState (.pkBit (bitOperand v)) s =
      latch .ack { s with pkAcc := placeBit s.pkAcc s.pkN (BitVec.ofBool v), pkN := s.pkN + 1#3 } := by
  apply execState_of_exec
  rw [exec, execPkBit, checkOperand_of_legal (by cases v <;> rfl), if_neg h, argBit_bitOperand, respond]

/-- One PK.BIT: the pending bits and the bytes emitted stay those of the bits so far. -/
theorem packed_concat {s : State} {b : List Bool} (hs : s.Packed b) (v : Bool) :
    (execState (.pkBit (bitOperand v)) s).Packed (b ++ [v]) ∧
      fullBytes b ++ [(execState (.pkBit (bitOperand v)) s).rsp].filterMap valByte? = fullBytes (b ++ [v]) := by
  obtain ⟨hn, hacc⟩ := hs
  have hbyte := packGroup_concat_last hn v
  rw [← hacc] at hbyte
  by_cases hfull : s.pkN = 7#3
  · have hmod : b.length % 8 = 7 := by rw [← hn, hfull]; rfl
    rw [execState_pkBit_of_full hfull, fullBytes_concat_of_full hmod, hbyte]
    refine ⟨⟨?_, ?_⟩, by simp⟩
    · simp; omega
    · apply BitVec.eq_of_getLsbD_eq
      intro j hj
      have hout : (b ++ [v]).length ≤ 8 * ((b ++ [v]).length / 8) + j := by simp; omega
      rw [getLsbD_packGroup, List.getD_eq_default _ _ hout]
      simp
  · have hmod : b.length % 8 ≠ 7 := fun h => hfull (BitVec.eq_of_toNat_eq (hn.trans h))
    have hlen : (b ++ [v]).length / 8 = b.length / 8 := by simp; omega
    rw [execState_pkBit_of_room hfull, fullBytes_concat_of_room hmod]
    refine ⟨⟨?_, ?_⟩, by simp⟩
    · have hsucc : (s.pkN + 1#3).toNat = s.pkN.toNat + 1 := by bv_omega
      simp [hsucc, hn]
      omega
    · simp only [latch_pkAcc]
      rw [hlen, hbyte]

/-- PK.BIT after PK.BIT from a cleared packer. -/
theorem packed_pkBits {s : State} (hs : s.Packed []) (b : List Bool) :
    (execAll (b.map fun v => .pkBit (bitOperand v)) s).Packed b ∧
      (commandResponses (b.map fun v => .pkBit (bitOperand v)) s).filterMap valByte? = fullBytes b := by
  induction b using List.reverseRecOn with
  | nil => exact ⟨hs, rfl⟩
  | append_singleton b v ih =>
    obtain ⟨hb, hbytes⟩ := ih
    obtain ⟨hv, hemit⟩ := packed_concat hb v
    rw [List.map_append, execAll_append, commandResponses_append, List.filterMap_append, hbytes]
    exact ⟨hv, hemit⟩

/-- PK.FLUSH emits the pending bits, if there are any. -/
theorem valByte?_pkFlush {s : State} {b : List Bool} (hs : s.Packed b) :
    [(execState (.pkFlush 0x0000#16) s).rsp].filterMap valByte? =
      if b.length % 8 = 0 then [] else [packGroup b (b.length / 8)] := by
  obtain ⟨hn, hacc⟩ := hs
  obtain ⟨-, hz, ht⟩ | ⟨-, hz, ht⟩ | ⟨hne, -⟩ := execPkFlush_next (exec_eq_next (.pkFlush 0x0000#16) s)
  · have hmod : b.length % 8 = 0 := by rw [← hn, hz]; rfl
    simp [ht, hmod]
  · have hmod : b.length % 8 ≠ 0 := fun h => hz (BitVec.eq_of_toNat_eq (hn.trans h))
    simp [ht, hmod, hacc]
  · exact absurd rfl hne

theorem result_packBits (b : List Bool) (s : State) :
    (Macro.packBits b).result (commandResponses (Macro.packBits b).expand s) = (Macro.packBits b).reference := by
  have hinit : (execState (.pkInit 0x0000#16) s).Packed [] := ⟨rfl, rfl⟩
  obtain ⟨hb, hbytes⟩ := packed_pkBits hinit b
  rw [Macro.result, Macro.expand, commandResponses_expansion, List.filterMap_append, valByte?_pkFlush hb, execState_pkInit,
    latch_rsp, List.filterMap_cons_none valByte?_ack, ← execState_pkInit, hbytes, ← packBits_eq_fullBytes_append,
    Macro.reference]

/-! ### unpackBits (43_bitunpack.md R100 to R103, R108) -/

/-- The count byte is taken, and `n` data bytes are still to come. -/
def State.Awaits (s : State) (n : Nat) : Prop := s.upRem.toNat = n ∧ s.upPh = if n = 0 then .done else .data

theorem execState_upInit (s : State) :
    execState (.upInit 0x0000#16) s = latch .ack { s with upPh := .count, upCnt := 0x00#8, upRem := 0x00#8 } := rfl

theorem execState_upByte (y : Byte) (s : State) :
    execState (.upByte (y.setWidth 16)) s =
      match s.upPh with
      | .count => latch .ack (takeCount y s)
      | .data => latch (.val (y.setWidth 16)) (takeData y s)
      | .done => latch .ack s := by
  apply execState_of_exec
  rw [exec, execUpByte, checkOperand_of_legal (by simp), argByte_setWidth]
  cases s.upPh <;> rfl

theorem execState_upEnd (s : State) :
    execState (.upEnd 0x0000#16) s = latch (if s.upPh = .done then .val (s.upCnt.setWidth 16) else .err .formatError) s := by
  apply execState_of_exec
  rw [exec, execUpEnd, checkOperand_of_legal (by simp)]
  cases s.upPh <;> rfl

theorem awaits_takeCount (y : Byte) (s : State) : (takeCount y s).Awaits y.toNat := by
  refine ⟨rfl, ?_⟩
  simp [← BitVec.toNat_inj]

theorem awaits_takeData {s : State} {n : Nat} (hs : s.Awaits (n + 1)) (y : Byte) : (takeData y s).Awaits n := by
  obtain ⟨hrem, hph⟩ := hs
  have hdown := countDown_of_pos (by omega : 1 ≤ s.upRem.toNat) y
  refine ⟨by simp; omega, ?_⟩
  have hone : s.upRem = 0x01#8 ↔ n = 0 := by rw [← BitVec.toNat_inj, hrem]; simp
  simp [hone, hph]

/-- UP.BYTE after UP.BYTE: the declared bytes are answered, the bytes beyond are not. -/
theorem awaits_upBytes {s : State} {n : Nat} (hs : s.Awaits n) (ys : List Byte) :
    (execAll (ys.map fun y => .upByte (y.setWidth 16)) s).Awaits (n - ys.length) ∧
      (execAll (ys.map fun y => .upByte (y.setWidth 16)) s).upCnt = s.upCnt ∧
      (commandResponses (ys.map fun y => .upByte (y.setWidth 16)) s).filterMap valByte? = ys.take n := by
  induction ys generalizing s n with
  | nil => exact ⟨hs, rfl, List.take_nil.symm⟩
  | cons y ys ih =>
    have ⟨_, hph⟩ := hs
    rw [List.map_cons, execAll_cons, commandResponses_cons, execState_upByte, hph]
    cases n with
    | zero => simpa using ih (s := latch .ack s) hs
    | succ n =>
      have hstep : (latch (.val (y.setWidth 16)) (takeData y s)).Awaits n := awaits_takeData hs y
      simpa using ih hstep

theorem upPh_eq_done_iff {s : State} {n : Nat} (hs : s.Awaits n) : s.upPh = .done ↔ n = 0 := by
  obtain ⟨-, hph⟩ := hs
  simp [hph]

/-- A whole buffer after UP.INIT: the phase at its end, the count, and the data bytes answered. -/
theorem upBytes_after_upInit (y0 : Byte) (ys : List Byte) (s : State) :
    ((execAll ((y0 :: ys).map fun y => .upByte (y.setWidth 16)) (execState (.upInit 0x0000#16) s)).upPh = .done ↔
        y0.toNat ≤ ys.length) ∧
      (execAll ((y0 :: ys).map fun y => .upByte (y.setWidth 16)) (execState (.upInit 0x0000#16) s)).upCnt = y0 ∧
      (commandResponses ((y0 :: ys).map fun y => .upByte (y.setWidth 16)) (execState (.upInit 0x0000#16) s)).filterMap valByte? =
        ys.take y0.toNat := by
  have hcount : execState (.upByte (y0.setWidth 16)) (execState (.upInit 0x0000#16) s) =
      latch .ack (takeCount y0 (execState (.upInit 0x0000#16) s)) := execState_upByte y0 _
  have hs : (latch .ack (takeCount y0 (execState (.upInit 0x0000#16) s))).Awaits y0.toNat := awaits_takeCount y0 _
  obtain ⟨hend, hcnt, hbytes⟩ := awaits_upBytes hs ys
  rw [List.map_cons, execAll_cons, commandResponses_cons, hcount, latch_rsp, List.filterMap_cons_none valByte?_ack]
  exact ⟨(upPh_eq_done_iff hend).trans Nat.sub_eq_zero_iff_le, hcnt, hbytes⟩

/-- UP.END decides whether bits are yielded (R57). -/
theorem result_unpackBits_expansion (buf : List Byte) (s : State) :
    (Macro.unpackBits buf).result (commandResponses (Macro.unpackBits buf).expand s) =
      if (execAll (buf.map fun y => .upByte (y.setWidth 16)) (execState (.upInit 0x0000#16) s)).upPh = .done then
        .bits (((commandResponses (buf.map fun y => .upByte (y.setWidth 16)) (execState (.upInit 0x0000#16) s)).filterMap
            valByte?).flatMap byteBits)
          (execAll (buf.map fun y => .upByte (y.setWidth 16)) (execState (.upInit 0x0000#16) s)).upCnt
      else .formatError := by
  rw [Macro.result, Macro.expand, getLastD_expansion, commandResponses_expansion, List.dropLast_concat, execState_upEnd, latch_rsp,
    execState_upInit, latch_rsp, List.filterMap_cons_none valByte?_ack]
  split
  next => rw [rspKind_val, if_pos rfl, rspVal_val, setWidth_lowByte]
  next => rw [rspKind_err, if_neg (by decide)]

theorem result_unpackBits (buf : List Byte) (s : State) :
    (Macro.unpackBits buf).result (commandResponses (Macro.unpackBits buf).expand s) = (Macro.unpackBits buf).reference := by
  rw [result_unpackBits_expansion]
  cases buf with
  | nil => rfl
  | cons y0 ys =>
    obtain ⟨hdone, hcnt, hbytes⟩ := upBytes_after_upInit y0 ys s
    rw [hcnt, hbytes, Macro.reference, unpackBits]
    by_cases hshort : ys.length < y0.toNat
    · rw [if_pos hshort, if_neg (mt hdone.mp (Nat.not_le.mpr hshort))]
    · rw [if_neg hshort, if_pos (hdone.mpr (Nat.le_of_not_lt hshort))]

theorem result_commandResponses (m : Macro) (s : State) : m.result (commandResponses m.expand s) = m.reference := by
  cases m with
  | computeCRC d => exact result_computeCRC d s
  | checkCRC d x => exact result_checkCRC d x s
  | computeLRC d => exact result_computeLRC d s
  | checkLRC d x => exact result_checkLRC d x s
  | packBits b => exact result_packBits b s
  | unpackBits buf => exact result_unpackBits buf s

/-- Settles O51: the expansion's responses are those of its commands one after the other, and from them each of the six reads
its reference function's value. -/
theorem macrosComputeTheReferenceFunctions : Obligations.MacrosComputeTheReferenceFunctions := by
  unfold Obligations.MacrosComputeTheReferenceFunctions
  intro m s
  obtain ⟨t, hrun⟩ := runPort_ofInstr m.expand (fun u => .refl u s)
  exact ⟨t, commandResponses m.expand s, hrun, result_commandResponses m s⟩

end Sys2Proof.Machine

/-! ### Folding a byte is eight rounds (10_state.md R10; 40_crc16.md R65, R68, R74, R76)

The idea: `crcFold c b` is eight rounds of R10 on `c ^^^ zext b`, the high byte being shifted down untouched. A round loses nothing,
since the polynomial's top bit records whether it was exclusive-ored in, so a fold is one-to-one in the CRC and in the byte. -/

namespace Sys2Proof.Machine

theorem tableRounds_xor (n : Nat) (a b : Word16) : tableRounds n (a ^^^ b) = tableRounds n a ^^^ tableRounds n b := by
  induction n generalizing a b with
  | zero => rfl
  | succ n ih => rw [tableRounds, tableRound_xor, ih]; rfl

/-- Rounds that meet only zero bits shift. -/
theorem tableRounds_of_low_zero {n : Nat} {c : Word16} (h : ∀ k < n, c.getLsbD k = false) : tableRounds n c = c >>> n := by
  induction n generalizing c with
  | zero => simp [tableRounds]
  | succ n ih =>
    have hround : tableRound c = c >>> 1 := by simp only [tableRound, h 0 (by omega), Bool.false_eq_true, if_false]
    have hlow : ∀ k < n, (c >>> 1).getLsbD k = false := fun k hk => by
      rw [BitVec.getLsbD_ushiftRight]
      exact h (1 + k) (by omega)
    rw [tableRounds, hround, ih hlow, ← BitVec.shiftRight_add, Nat.add_comm]

theorem tableRounds_highByte (b : Byte) : tableRounds 8 (b.setWidth 16 <<< 8) = b.setWidth 16 := by
  rw [tableRounds_of_low_zero (fun k hk => by simp [hk])]
  ext k hk
  by_cases h8 : k < 8
  · simp [show 8 + k < 16 by omega]
  · simp [show ¬ 8 + k < 16 by omega, BitVec.getLsbD_of_ge b k (by omega)]

/-- A word is its low byte and its high byte, the latter in place. -/
theorem word16_split (c : Word16) : c = (c.extractLsb' 0 8).setWidth 16 ^^^ (c.extractLsb' 8 8).setWidth 16 <<< 8 := by
  ext k hk
  by_cases h8 : k < 8
  · simp [h8, BitVec.getLsbD_eq_getElem hk]
  · simp [h8, show 8 + (k - 8) = k by omega, show k - 8 < 8 by omega, BitVec.getLsbD_eq_getElem hk]

theorem crcFold_eq_tableRounds (c : Word16) (b : Byte) : crcFold c b = tableRounds 8 (c ^^^ b.setWidth 16) := by
  have hlow : c ^^^ b.setWidth 16 =
      (c.extractLsb' 0 8 ^^^ b).setWidth 16 ^^^ (c.extractLsb' 8 8).setWidth 16 <<< 8 := by
    conv_lhs => rw [word16_split c]
    rw [BitVec.setWidth_xor]
    ac_rfl
  rw [hlow, tableRounds_xor, tableRounds_highByte, crcFold, crcTable, BitVec.xor_comm]

/-- The top bit after a round is the low bit before it: the shift clears it, and the polynomial sets it. -/
theorem msb_tableRound (c : Word16) : (tableRound c).getLsbD 15 = c.getLsbD 0 := by
  rw [tableRound_eq]
  cases c.getLsbD 0 <;> simp [Config.poly]

theorem tableRound_injective : Function.Injective tableRound := by
  intro a b h
  have hlow : a.getLsbD 0 = b.getLsbD 0 := by rw [← msb_tableRound a, h, msb_tableRound]
  have hrest : a >>> 1 = b >>> 1 := by
    rw [tableRound_eq, tableRound_eq, hlow] at h
    exact (BitVec.xor_left_inj _).mp h
  apply BitVec.eq_of_getLsbD_eq
  intro k hk
  cases k with
  | zero => exact hlow
  | succ k => simpa [Nat.add_comm] using congrArg (BitVec.getLsbD · k) hrest

theorem tableRounds_injective (n : Nat) : Function.Injective (tableRounds n) := by
  induction n with
  | zero => exact fun _ _ h => h
  | succ n ih => exact ih.comp tableRound_injective

theorem crcFold_left_injective (b : Byte) : Function.Injective (crcFold · b) := by
  intro c c' h
  simp only [crcFold_eq_tableRounds] at h
  exact (BitVec.xor_left_inj _).mp (tableRounds_injective 8 h)

theorem crcFold_right_injective (c : Word16) : Function.Injective (crcFold c) := by
  intro b b' h
  rw [crcFold_eq_tableRounds, crcFold_eq_tableRounds] at h
  have hwide : b.setWidth 16 = b'.setWidth 16 := (BitVec.xor_right_inj _).mp (tableRounds_injective 8 h)
  rw [← setWidth_lowByte b, hwide, setWidth_lowByte]

/-- R65 and R70 are one rule. -/
theorem crcStep_toNat (c : Word16) (b : Byte) : crcStep c b.toNat = crcFold c b := by
  rw [crcStep, Nat.mod_eq_of_lt b.isLt, BitVec.ofNat_toNat, BitVec.setWidth_eq, crcFold]

theorem foldl_crcStep_injective (d : List Nat) : Function.Injective (d.foldl crcStep) := by
  induction d with
  | nil => exact fun _ _ h => h
  | cons e d ih => exact ih.comp (crcFold_left_injective (BitVec.ofNat 8 (e % 256)))

theorem flipBit_ne {j : Nat} (hj : j < 8) (e : Byte) : e ^^^ 1#8 <<< j ≠ e := by
  intro h
  simpa [hj] using congrArg (BitVec.getLsbD · j) h

/-- Messages that differ in one byte have different CRCs. -/
theorem computeCRC_ne_of_byte_ne (pre post : List Nat) {e e' : Byte} (h : e ≠ e') :
    computeCRC (pre ++ e.toNat :: post) ≠ computeCRC (pre ++ e'.toNat :: post) := by
  simp only [computeCRC, List.foldl_append, List.foldl_cons, crcStep_toNat]
  exact fun heq => h (crcFold_right_injective _ (foldl_crcStep_injective post heq))

/-- Settles O19: a flipped bit changes its byte, and two messages that differ in one byte have different CRCs. -/
theorem crcDetectsEverySingleBitFlip : Obligations.CrcDetectsEverySingleBitFlip := by
  unfold Obligations.CrcDetectsEverySingleBitFlip
  refine ⟨rfl, fun d => by simp [checkCRC], fun pre post e j hj => ?_⟩
  rw [List.map_append, List.map_append, List.map_cons, List.map_cons]
  exact computeCRC_ne_of_byte_ne _ _ (flipBit_ne hj e)

/-- Settles O18: `crcStep` reduces its element itself. -/
theorem onlyTheLowByteOfAnElementMatters : Obligations.OnlyTheLowByteOfAnElementMatters := by
  unfold Obligations.OnlyTheLowByteOfAnElementMatters
  have hstep : ∀ (c : Word16) (e : Nat), crcStep c e = crcStep c (e % 256) := fun c e => by
    rw [crcStep, crcStep, Nat.mod_mod]
  refine ⟨hstep, fun d => ?_⟩
  rw [computeCRC, computeCRC, List.foldl_map]
  simp only [← hstep]

/-- Settles O20: its own low byte leaves the CRC the zero-extended high byte, which is then its own low byte and has a high byte
of zero. -/
theorem appendingTheCrcGivesZero : Obligations.AppendingTheCrcGivesZero := by
  unfold Obligations.AppendingTheCrcGivesZero
  intro s
  refine ⟨_, _, exec_eq_next _ s, exec_eq_next _ _, ?_⟩
  have hself : ∀ b : Byte, crcFold (b.setWidth 16) b = 0x0000#16 := fun b => by
    simpa using crcFold_lowByte (b.setWidth 16)
  simp only [execState_crcUpd, latch_crc, argByte_setWidth, crcFold_lowByte, hself]

/-! ### The CRC commands one by one (40_crc16.md R69 to R71, R73) -/

/-- An illegal operand is answered with the word 0xF0002, and no register is written (30_encoding.md R53; 60_exceptions.md R120). -/
theorem checkOperand_answers_badOperand {fmt : Format} {arg : Word16} {s : State} {ok : Result}
    (h : operandLegal fmt arg = false) :
    checkOperand fmt arg s ok = .next { s with rspV := true, rsp := 0xF0002#20 } :=
  checkOperand_of_illegal h

/-- The answer of a check (30_encoding.md R59). -/
theorem word_val_boolVal (b : Bool) : (Response.val (boolVal b)).word = if b then 0x10001#20 else 0x10000#20 := by
  cases b <;> rfl

theorem exec_crcRd (s : State) :
    exec (.crcRd 0x0000#16) s = .next { s with rspV := true, rsp := 0x1#4 ++ s.crc } := rfl

theorem exec_crcChk (arg : Word16) (s : State) :
    exec (.crcChk arg) s = .next { s with rspV := true, rsp := if s.crc == arg then 0x10001#20 else 0x10000#20 } := by
  rw [exec_eq_next, execState_crcChk, latch, word_val_boolVal]

/-- Settles O12: by whether the operand is legal. -/
theorem crcInitSetsTheSeed : Obligations.CrcInitSetsTheSeed := by
  unfold Obligations.CrcInitSetsTheSeed
  refine ⟨rfl, fun arg s => ⟨?_, fun h => checkOperand_answers_badOperand (by simp [h])⟩⟩
  rintro rfl
  exact exec_eq_next _ s

/-- Settles O13: every operand is legal, and the fold of its low byte is `crcStep` of the whole. -/
theorem crcUpdFoldsTheLowByte : Obligations.CrcUpdFoldsTheLowByte := by
  unfold Obligations.CrcUpdFoldsTheLowByte
  refine ⟨fun arg => rfl, fun arg s => ⟨exec_eq_next _ s, _, exec_eq_next _ s, ?_⟩⟩
  rw [execState_crcUpd, latch_crc, crcFold_argByte]

/-- Settles O14: by whether the operand is legal. -/
theorem crcRdAnswersTheCrc : Obligations.CrcRdAnswersTheCrc := by
  unfold Obligations.CrcRdAnswersTheCrc
  refine ⟨rfl, fun arg s => ⟨?_, fun h => checkOperand_answers_badOperand (by simp [h])⟩⟩
  rintro rfl
  exact exec_crcRd s

/-- Settles O15: by the comparison of `CRC` with the operand. -/
theorem crcChkAnswersTheComparison : Obligations.CrcChkAnswersTheComparison := by
  unfold Obligations.CrcChkAnswersTheComparison
  exact ⟨fun arg => rfl, fun arg s => ⟨fun h => by simp [exec_crcChk, h], fun h => by simp [exec_crcChk, h]⟩⟩

/-! ### The writing commands of a unit over a whole run (10_state.md R11; 40_crc16.md R72)

The idea: a reset-free drive acts on a unit as the unit's own commands do (`runPort_unit`), and of these only the ones that write
matter. For the CRC unit these are CRC.INIT and the CRC.UPDs, whose run is known (`execAll_crcUpd`, `crc_afterElements`). -/

/-- A command keeps two states in agreement on any unit, its own or another. -/
theorem State.AgreeOn.execState {u : FuncUnit} {s s' : State} (h : s.AgreeOn u s') (i : Instr) :
    (execState i s).AgreeOn u (execState i s') := by
  by_cases hu : u = i.unit
  · subst hu
    exact (execState_congr h).1
  · have hs := (execState_sameOutside i s).agreeOn u hu
    have hs' := (execState_sameOutside i s').agreeOn u hu
    exact hs.symm.trans (h.trans hs')

section
variable {u : FuncUnit} {writes : Instr → Bool} (hw : ∀ i (s : State), writes i = false → s.AgreeOn u (execState i s))
include hw

/-- Commands that leave a unit's registers, whatever they answer, can be left out of a run as far as that unit goes. -/
theorem execAll_filter_agreeOn (is : List Instr) {s s' : State} (h : s.AgreeOn u s') :
    (execAll is s).AgreeOn u (execAll (is.filter writes) s') := by
  induction is generalizing s s' with
  | nil => exact h
  | cons i is ih =>
    cases hi : writes i with
    | true => simpa [hi] using ih (h.execState i)
    | false => simpa [hi] using ih ((hw i s hi).symm.trans h)

/-- A reset-free drive acts on a unit as the unit's writing commands do. -/
theorem runPort_writers {ps : List PortSample} (hps : NoReset ps) (s : State) :
    ∃ t rs, runPort ps s = .next (t, rs) ∧ t.AgreeOn u (execAll ((unitCommands u ps).filter writes) s) := by
  obtain ⟨t, rs, hrun, ht, -⟩ := runPort_unit hps (.refl u s)
  exact ⟨t, rs, hrun, ht.trans (execAll_filter_agreeOn hw _ (.refl u s))⟩

end

/-- R11: a command that is not one of the CRC's writers, or is refused, leaves `CRC`. -/
theorem agreeOn_crc_of_not_writesCrc (i : Instr) (s : State) (h : writesCrc i = false) : s.AgreeOn .crc (execState i s) := by
  by_cases hu : i.unit = .crc
  · cases i with
    | crcInit arg =>
      obtain ⟨rfl, -⟩ | ⟨-, ht⟩ := execCrcInit_next (exec_eq_next (.crcInit arg) s)
      · simp [writesCrc] at h
      · rw [ht]; rfl
    | crcUpd arg => simp [writesCrc] at h
    | crcRd arg =>
      obtain ⟨-, ht⟩ | ⟨-, ht⟩ := execCrcRd_next (exec_eq_next (.crcRd arg) s) <;> rw [ht] <;> rfl
    | crcChk arg => rfl
    | _ => simp [Instr.unit] at hu
  · exact (execState_sameOutside i s).agreeOn .crc (Ne.symm hu)

/-- The writing commands of a drive with elements `d` that starts fresh leave `computeCRC d`. -/
theorem crc_of_startsFresh {s : State} {pre : List Instr} (h : StartsFresh .crc (.crcInit 0x0000#16) pre s) (d : List Word16) :
    (execAll (pre ++ d.map .crcUpd) s).crc = computeCRC (d.map BitVec.toNat) := by
  obtain rfl | ⟨rfl, hreset⟩ := h
  · exact crc_afterElements d s
  · have hseed : s.crc = Config.seed := hreset
    rw [List.nil_append, execAll_crcUpd, hseed, computeCRC]

/-- Settles O21: the drive acts on `CRC` as its writing commands do, and the two queries read `CRC`. -/
theorem crcCommandsComputeTheCrc : Obligations.CrcCommandsComputeTheCrc := by
  unfold Obligations.CrcCommandsComputeTheCrc
  refine ⟨fun s ps pre d hps hfresh hcmds => ?_, fun s ps d hps hcmds => ?_⟩
  · obtain ⟨t, rs, hrun, ht⟩ := runPort_writers agreeOn_crc_of_not_writesCrc hps s
    rw [hcmds, agreeOn_crc, crc_of_startsFresh hfresh] at ht
    refine ⟨t, rs, hrun, ht, ?_, fun x => ?_⟩
    · rw [exec_crcRd, ht]
    · rw [exec_crcChk, checkCRC, toNat_beq, ht]
  · obtain ⟨t, rs, hrun, ht⟩ := runPort_writers agreeOn_crc_of_not_writesCrc hps s
    rw [hcmds, agreeOn_crc, execAll_crcUpd] at ht
    exact ⟨t, rs, hrun, ht⟩

end Sys2Proof.Machine

/-! ### computeLRC as an exclusive-or fold (41_lrc.md R80, R81, R86)

The idea: a fold from any start is the start exclusive-or the fold from the seed 0 (`foldl_xor`), so `computeLRC` of a
concatenation splits, and every law of exclusive or becomes one of `computeLRC`. -/

namespace Sys2Proof.Machine

@[simp] theorem computeLRC_nil : computeLRC [] = 0x00#8 := rfl

theorem foldl_xor (d : List Byte) (l : Byte) : d.foldl (· ^^^ ·) l = l ^^^ computeLRC d := by
  conv_lhs => rw [← BitVec.xor_zero (x := l)]
  exact List.foldl_assoc

@[simp] theorem computeLRC_cons (e : Byte) (d : List Byte) : computeLRC (e :: d) = e ^^^ computeLRC d := by
  rw [computeLRC, List.foldl_cons, foldl_xor, Config.lrcSeed, BitVec.zero_xor]

@[simp] theorem computeLRC_append (d1 d2 : List Byte) : computeLRC (d1 ++ d2) = computeLRC d1 ^^^ computeLRC d2 := by
  rw [computeLRC, List.foldl_append, foldl_xor, ← computeLRC]

/-- Exclusive or commutes, so a fold of it does not see the order. -/
theorem computeLRC_perm {d1 d2 : List Byte} (h : d1.Perm d2) : computeLRC d1 = computeLRC d2 :=
  h.foldl_eq Config.lrcSeed

/-- R81 compares numbers; on a 16-bit word that is R85's comparison with the zero-extended LRC. -/
theorem checkLRC_toNat (d : List Byte) (x : Word16) : checkLRC d x.toNat = ((computeLRC d).setWidth 16 == x) := by
  have hwide : ((computeLRC d).setWidth 16).toNat = (computeLRC d).toNat := BitVec.toNat_setWidth_of_le (by decide)
  rw [checkLRC, ← hwide, toNat_beq]

/-- Settles O26: the LRC of a concatenation, and then the laws of exclusive or. -/
theorem lrcIsAnExclusiveOrFold : Obligations.LrcIsAnExclusiveOrFold := by
  unfold Obligations.LrcIsAnExclusiveOrFold
  exact ⟨computeLRC_append, fun _ _ => computeLRC_perm, fun d e => by simp, fun d => by simp⟩

/-! ### The LRC commands one by one (41_lrc.md R82 to R85) -/

theorem exec_lrcRd (s : State) :
    exec (.lrcRd 0x0000#16) s = .next { s with rspV := true, rsp := 0x1#4 ++ s.lrc.setWidth 16 } := rfl

theorem exec_lrcChk (arg : Word16) (s : State) :
    exec (.lrcChk arg) s =
      .next { s with rspV := true, rsp := if s.lrc.setWidth 16 == arg then 0x10001#20 else 0x10000#20 } := by
  rw [exec_eq_next, execState_lrcChk, latch, word_val_boolVal]

/-- R85: no zero-extended byte equals a word with a non-zero high byte. -/
theorem setWidth_ne_of_highByte_ne_zero {arg : Word16} (h : arg.extractLsb' 8 8 ≠ 0x00#8) (l : Byte) :
    l.setWidth 16 ≠ arg := by
  rintro rfl
  exact h (setWidth_highByte l)

/-- Settles O22: by whether the operand is legal. -/
theorem lrcInitClearsTheLrc : Obligations.LrcInitClearsTheLrc := by
  unfold Obligations.LrcInitClearsTheLrc
  refine ⟨rfl, fun arg s => ⟨?_, fun h => checkOperand_answers_badOperand (by simp [h])⟩⟩
  rintro rfl
  exact exec_eq_next _ s

/-- Settles O23: by whether the operand is legal. -/
theorem lrcUpdFoldsAByteOrRefuses : Obligations.LrcUpdFoldsAByteOrRefuses := by
  unfold Obligations.LrcUpdFoldsAByteOrRefuses
  exact ⟨fun arg => rfl, fun arg s =>
    ⟨fun h => checkOperand_of_legal (by simp [h]), fun h => checkOperand_answers_badOperand (by simp [h])⟩⟩

/-- Settles O24: by whether the operand is legal. -/
theorem lrcRdAnswersTheLrc : Obligations.LrcRdAnswersTheLrc := by
  unfold Obligations.LrcRdAnswersTheLrc
  refine ⟨rfl, fun arg s => ⟨?_, fun h => checkOperand_answers_badOperand (by simp [h])⟩⟩
  rintro rfl
  exact exec_lrcRd s

/-- Settles O25: by the comparison of the zero-extended `LRC` with the operand, which a non-zero high byte decides. -/
theorem lrcChkAnswersTheComparison : Obligations.LrcChkAnswersTheComparison := by
  unfold Obligations.LrcChkAnswersTheComparison
  refine ⟨fun arg => rfl, fun arg s => ?_⟩
  have hne (h : s.lrc.setWidth 16 ≠ arg) : exec (.lrcChk arg) s = .next { s with rspV := true, rsp := 0x10000#20 } := by
    simp [exec_lrcChk, h]
  exact ⟨fun h => by simp [exec_lrcChk, h], hne, fun h => hne (setWidth_ne_of_highByte_ne_zero h _)⟩

/-! ### The writing commands of the LRC unit over a whole run (10_state.md R12; 41_lrc.md R87) -/

/-- R12: a command that is not one of the LRC's writers, or is refused, leaves `LRC`. -/
theorem agreeOn_lrc_of_not_writesLrc (i : Instr) (s : State) (h : writesLrc i = false) : s.AgreeOn .lrc (execState i s) := by
  by_cases hu : i.unit = .lrc
  · cases i with
    | lrcInit arg =>
      obtain ⟨rfl, -⟩ | ⟨-, ht⟩ := execLrcInit_next (exec_eq_next (.lrcInit arg) s)
      · simp [writesLrc] at h
      · rw [ht]; rfl
    | lrcUpd arg =>
      obtain ⟨hlegal, -⟩ | ⟨-, ht⟩ := execLrcUpd_next (exec_eq_next (.lrcUpd arg) s)
      · simp [writesLrc, hlegal] at h
      · rw [ht]; rfl
    | lrcRd arg =>
      obtain ⟨-, ht⟩ | ⟨-, ht⟩ := execLrcRd_next (exec_eq_next (.lrcRd arg) s) <;> rw [ht] <;> rfl
    | lrcChk arg => rfl
    | _ => simp [Instr.unit] at hu
  · exact (execState_sameOutside i s).agreeOn .lrc (Ne.symm hu)

/-- The writing commands of a drive with elements `d` that starts fresh leave `computeLRC d`. -/
theorem lrc_of_startsFresh {s : State} {pre : List Instr} (h : StartsFresh .lrc (.lrcInit 0x0000#16) pre s) (d : List Byte) :
    (execAll (pre ++ d.map fun e => .lrcUpd (e.setWidth 16)) s).lrc = computeLRC d := by
  obtain rfl | ⟨rfl, hreset⟩ := h
  · exact lrc_afterElements d s
  · have hseed : s.lrc = Config.lrcSeed := hreset
    rw [List.nil_append, execAll_lrcUpd, hseed, computeLRC]

/-- Settles O27: the drive acts on `LRC` as its writing commands do, and the two queries read `LRC`. -/
theorem lrcCommandsComputeTheLrc : Obligations.LrcCommandsComputeTheLrc := by
  unfold Obligations.LrcCommandsComputeTheLrc
  refine ⟨fun s ps pre d hps hfresh hcmds => ?_, fun s ps d hps hcmds => ?_⟩
  · obtain ⟨t, rs, hrun, ht⟩ := runPort_writers agreeOn_lrc_of_not_writesLrc hps s
    rw [hcmds, agreeOn_lrc, lrc_of_startsFresh hfresh] at ht
    refine ⟨t, rs, hrun, ht, ?_, fun x => ?_⟩
    · rw [exec_lrcRd, ht]
    · rw [exec_lrcChk, checkLRC_toNat, ht]
  · obtain ⟨t, rs, hrun, ht⟩ := runPort_writers agreeOn_lrc_of_not_writesLrc hps s
    rw [hcmds, agreeOn_lrc, execAll_lrcUpd, foldl_xor] at ht
    exact ⟨t, rs, hrun, ht⟩

end Sys2Proof.Machine

/-! ### packBits as a list of bytes (42_bitpack.md R90) -/

namespace Sys2Proof.Machine

@[simp] theorem length_packBits (b : List Bool) : (packBits b).length = ceilDiv8 b.length := by
  simp [packBits]

theorem eq_packGroup_of_getElem?_packBits {b : List Bool} {k : Nat} {y : Byte} (h : (packBits b)[k]? = some y) :
    y = packGroup b k := by
  obtain ⟨hk, hy⟩ := List.getElem?_eq_some_iff.mp h
  simpa [packBits] using hy.symm

/-- A group that begins beyond the end of the input is all padding. -/
theorem packGroup_eq_zero {b : List Bool} {k : Nat} (h : b.length ≤ 8 * k) : packGroup b k = 0x00#8 := by
  apply BitVec.eq_of_getLsbD_eq
  intro j hj
  rw [getLsbD_packGroup, List.getD_eq_default _ _ (by omega), Bool.and_false, BitVec.getLsbD_zero]

/-- Settles O31: the length is `ceilDiv8`, and each bit is that of the byte's group. -/
theorem packedBitsStandLeastSignificantFirst : Obligations.PackedBitsStandLeastSignificantFirst := by
  unfold Obligations.PackedBitsStandLeastSignificantFirst
  intro b
  rw [length_packBits, ceilDiv8]
  refine ⟨by omega, fun m hm => by omega, fun k j y hy hj => ?_⟩
  rw [eq_packGroup_of_getElem?_packBits hy, getLsbD_packGroup]
  refine ⟨fun v hv => ?_, fun hout => ?_⟩
  · simp [hj, hv]
  · rw [List.getD_eq_default _ _ hout, Bool.and_false]

/-! ### The packer's commands one by one (42_bitpack.md R91 to R93) -/

/-- Settles O28: by whether the operand is legal. -/
theorem pkInitDropsPendingBits : Obligations.PkInitDropsPendingBits := by
  unfold Obligations.PkInitDropsPendingBits
  refine ⟨rfl, fun arg s => ⟨?_, fun h => checkOperand_answers_badOperand (by simp [h])⟩⟩
  rintro rfl
  exact exec_eq_next _ s

/-- Settles O29: by whether the operand is legal, and then by whether the bit is the eighth of its group. -/
theorem pkBitPlacesOrEmits : Obligations.PkBitPlacesOrEmits := by
  unfold Obligations.PkBitPlacesOrEmits
  refine ⟨fun arg => rfl, fun arg s => ⟨fun h hfull => ?_, fun h hroom => ?_, fun h => ?_⟩⟩
  · exact (checkOperand_of_legal (by simp [h])).trans (if_pos hfull)
  · exact (checkOperand_of_legal (by simp [h])).trans (if_neg hroom)
  · exact checkOperand_answers_badOperand (by simp [h])

/-- Settles O30: by whether the operand is legal, and then by whether a bit is pending. -/
theorem pkFlushEmitsPendingBits : Obligations.PkFlushEmitsPendingBits := by
  unfold Obligations.PkFlushEmitsPendingBits
  refine ⟨rfl, fun arg s => ⟨fun h hnone => ?_, fun h hsome => ?_, fun h => ?_⟩⟩
  · exact (checkOperand_of_legal (by simp [h])).trans (if_pos hnone)
  · exact (checkOperand_of_legal (by simp [h])).trans (if_neg hsome)
  · exact checkOperand_answers_badOperand (by simp [h])

/-! ### The packer's commands over a whole run (42_bitpack.md R95, R96)

The idea: a reset-free drive answers the packer's commands as they are answered one after the other (`runPort_unit`), and the
`n`-th of those answers is the one given after the `n` commands before it (`getElem?_commandResponses`). After `n` PK.BITs the
packer is `Packed` with the first `n` bits, so what each command emits is known (`packed_concat`, `valByte?_pkFlush`). -/

@[simp] theorem length_commandResponses (is : List Instr) (s : State) : (commandResponses is s).length = is.length := by
  induction is generalizing s with
  | nil => rfl
  | cons i is ih => simp [ih]

theorem getElem?_commandResponses (is : List Instr) (s : State) (n : Nat) :
    (commandResponses is s)[n]? = is[n]?.map fun i => (execState i (execAll (is.take n) s)).rsp := by
  induction is generalizing s n with
  | nil => rfl
  | cons i is ih =>
    cases n with
    | zero => rfl
    | succ n => exact ih (execState i s) n

/-- A packing that starts fresh has no bit pending, and nothing has been emitted for it. -/
theorem packed_nil_of_startsFresh {s : State} {pre : List Instr} (h : StartsFresh .packer (.pkInit 0x0000#16) pre s) :
    (execAll pre s).Packed [] ∧ (commandResponses pre s).filterMap valByte? = [] := by
  obtain rfl | ⟨rfl, hacc, hn⟩ := h
  · exact ⟨⟨rfl, rfl⟩, by simp [execState_pkInit]⟩
  · exact ⟨⟨congrArg BitVec.toNat hn, hacc⟩, rfl⟩

/-- PK.BIT emits exactly when its bit completes a group. -/
theorem pkBit_emits_iff {s : State} {b : List Bool} (hs : s.Packed b) (v : Bool) :
    (valByte? (execState (.pkBit (bitOperand v)) s).rsp).isSome = true ↔ (b.length + 1) % 8 = 0 := by
  have hlen := congrArg List.length (packed_concat hs v).2
  cases hr : valByte? (execState (.pkBit (bitOperand v)) s).rsp <;> simp [hr, fullBytes] at hlen ⊢ <;> omega

/-- PK.FLUSH emits exactly when a group is left incomplete. -/
theorem pkFlush_emits_iff {s : State} {b : List Bool} (hs : s.Packed b) :
    (valByte? (execState (.pkFlush 0x0000#16) s).rsp).isSome = true ↔ b.length % 8 ≠ 0 := by
  have hbytes := valByte?_pkFlush hs
  cases hr : valByte? (execState (.pkFlush 0x0000#16) s).rsp with
  | none => simp_all
  | some y =>
    have hmod : b.length % 8 ≠ 0 := fun hmod => by simp [hr, hmod] at hbytes
    simp [hmod]

/-- PK.FLUSH leaves nothing pending. -/
theorem pkFlush_clears {s : State} {b : List Bool} (hs : s.Packed b) :
    (execState (.pkFlush 0x0000#16) s).pkAcc = 0x00#8 ∧ (execState (.pkFlush 0x0000#16) s).pkN = 0#3 := by
  obtain ⟨hn, hacc⟩ := hs
  obtain ⟨-, hz, ht⟩ | ⟨-, -, ht⟩ | ⟨hne, -⟩ := execPkFlush_next (exec_eq_next (.pkFlush 0x0000#16) s)
  · have hmod : b.length % 8 = 0 := by rw [← hn, hz]; rfl
    rw [ht]
    exact ⟨hacc.trans (packGroup_eq_zero (by omega)), hz⟩
  · rw [ht]
    exact ⟨rfl, rfl⟩
  · exact absurd rfl hne

/-- Which of the PK.BITs and the PK.FLUSH emit. -/
theorem packing_emits_iff {s : State} (hs : s.Packed []) {b : List Bool} {n : Nat} {r : RspWord}
    (h : (commandResponses (b.map (fun v => .pkBit (bitOperand v)) ++ [.pkFlush 0x0000#16]) s)[n]? = some r) :
    (valByte? r).isSome = true ↔ (n < b.length ∧ (n + 1) % 8 = 0) ∨ (n = b.length ∧ b.length % 8 ≠ 0) := by
  rw [getElem?_commandResponses] at h
  obtain hlt | rfl | hgt := Nat.lt_trichotomy n b.length
  · obtain ⟨hb, -⟩ := packed_pkBits hs (b.take n)
    have hr : (execState (.pkBit (bitOperand b[n])) (execAll ((b.take n).map fun v => .pkBit (bitOperand v)) s)).rsp = r := by
      simpa [hlt, List.getElem?_append, List.take_append, Nat.sub_eq_zero_of_le hlt.le, List.map_take] using h
    rw [← hr, pkBit_emits_iff hb, List.length_take_of_le hlt.le]
    simp [hlt, hlt.ne]
  · obtain ⟨hb, -⟩ := packed_pkBits hs b
    have hr : (execState (.pkFlush 0x0000#16) (execAll (b.map fun v => .pkBit (bitOperand v)) s)).rsp = r := by simpa using h
    rw [← hr, pkFlush_emits_iff hb]
    simp
  · simp [List.getElem?_eq_none, Nat.succ_le_of_lt hgt] at h

/-- The bytes a packing emits, from the PK.BITs and the PK.FLUSH together. -/
theorem packing_bytes {s : State} (hs : s.Packed []) (b : List Bool) :
    (commandResponses (b.map (fun v => .pkBit (bitOperand v)) ++ [.pkFlush 0x0000#16]) s).filterMap valByte? = packBits b := by
  obtain ⟨hb, hbytes⟩ := packed_pkBits hs b
  rw [commandResponses_append, List.filterMap_append, hbytes, commandResponses_cons, commandResponses_nil, valByte?_pkFlush hb,
    packBits_eq_fullBytes_append]

/-- The pending bits one by one (R95): zeros above. -/
theorem State.Packed.getLsbD_pkAcc {s : State} {b : List Bool} (hs : s.Packed b) {j : Nat} (hj : j < 8) :
    s.pkAcc.getLsbD j = (decide (j < b.length % 8) && b.getD (8 * (b.length / 8) + j) false) := by
  obtain ⟨-, hacc⟩ := hs
  rw [hacc, getLsbD_packGroup]
  by_cases hin : j < b.length % 8
  · simp [hj, hin]
  · rw [List.getD_eq_default _ _ (by omega), Bool.and_false, Bool.and_false]

/-- Settles O32: the packer's commands, taken out of the drive, are one packing from a packer with no bit pending. -/
theorem packerCommandsComputePackBits : Obligations.PackerCommandsComputePackBits := by
  unfold Obligations.PackerCommandsComputePackBits
  refine ⟨fun s ps pre b hps hfresh hcmds => ?_, fun s ps pre b hps hfresh hcmds => ?_⟩
  · obtain ⟨hpre, hnone⟩ := packed_nil_of_startsFresh hfresh
    obtain ⟨hb, -⟩ := packed_pkBits hpre b
    obtain ⟨hacc, hn⟩ := pkFlush_clears hb
    obtain ⟨t, rs, hrun, ht, hrs⟩ := runPort_unit hps (.refl .packer s)
    rw [hcmds, List.append_assoc, execAll_append, execAll_append] at ht
    obtain ⟨htacc, htn⟩ := ht
    rw [hcmds, List.append_assoc, commandResponses_append] at hrs
    refine ⟨t, rs, hrun, ?_, ?_, fun n r hr => ?_, htacc.trans hacc, htn.trans hn⟩
    · simp [hrs, Nat.add_assoc]
    · rw [hrs, List.filterMap_append, hnone, List.nil_append]
      exact packing_bytes hpre b
    · rw [hrs, List.getElem?_append_right (by simp), length_commandResponses, Nat.add_sub_cancel_left] at hr
      exact packing_emits_iff hpre hr
  · obtain ⟨hpre, -⟩ := packed_nil_of_startsFresh hfresh
    obtain ⟨hb, -⟩ := packed_pkBits hpre b
    obtain ⟨t, rs, hrun, ht, -⟩ := runPort_unit hps (.refl .packer s)
    rw [hcmds, execAll_append] at ht
    obtain ⟨htacc, htn⟩ := ht
    refine ⟨t, rs, hrun, ?_, fun j hj => ?_⟩
    · rw [htn, hb.1]
    · rw [htacc, hb.getLsbD_pkAcc hj]

end Sys2Proof.Machine

/-! ### unpackBits as a list of bits (43_bitunpack.md R100, R106, R107) -/

namespace Sys2Proof.Machine

@[simp] theorem length_byteBits (y : Byte) : (byteBits y).length = 8 := rfl

theorem getElem?_byteBits (y : Byte) {j : Nat} (hj : j < 8) : (byteBits y)[j]? = some (y.getLsbD j) := by
  simp [byteBits, hj]

theorem length_flatMap_byteBits (ys : List Byte) : (ys.flatMap byteBits).length = 8 * ys.length := by
  simp [List.length_flatMap, Nat.mul_comm]

/-- R104: the position of a data byte's bit among all of them. -/
theorem getElem?_flatMap_byteBits (ys : List Byte) (k : Nat) {j : Nat} (hj : j < 8) :
    (ys.flatMap byteBits)[8 * k + j]? = ys[k]?.map (·.getLsbD j) := by
  induction ys generalizing k with
  | nil => rfl
  | cons y ys ih =>
    rw [List.flatMap_cons]
    cases k with
    | zero =>
      rw [Nat.mul_zero, Nat.zero_add, List.getElem?_append_left hj, getElem?_byteBits y hj]
      rfl
    | succ k =>
      rw [List.getElem?_append_right (by simp; omega), length_byteBits, show 8 * (k + 1) + j - 8 = 8 * k + j by omega, ih k,
        List.getElem?_cons_succ]

theorem unpackBits_of_short {y0 : Byte} {ys : List Byte} (h : ys.length < y0.toNat) :
    unpackBits (y0 :: ys) = .error .formatError :=
  if_pos h

theorem unpackBits_of_long {y0 : Byte} {ys : List Byte} (h : y0.toNat ≤ ys.length) :
    unpackBits (y0 :: ys) = .ok ((ys.take y0.toNat).flatMap byteBits, y0) :=
  if_neg (Nat.not_lt.mpr h)

/-- Settles O38: by whether the buffer holds the declared bytes; the bits are those of `byteCount` bytes, 8 from each. -/
theorem unpackBitsDecodesExactlyTheDeclaredBytes : Obligations.UnpackBitsDecodesExactlyTheDeclaredBytes := by
  unfold Obligations.UnpackBitsDecodesExactlyTheDeclaredBytes
  refine ⟨rfl, fun rest => unpackBits_of_long (Nat.zero_le _), fun y0 ys => unpackBits_of_short, fun y0 ys h => ?_⟩
  have hlen : ((ys.take y0.toNat).flatMap byteBits).length = 8 * y0.toNat := by
    rw [length_flatMap_byteBits, List.length_take_of_le h]
  refine ⟨_, unpackBits_of_long h, hlen, by omega, fun k j y hk hj hy => ?_⟩
  rw [getElem?_flatMap_byteBits _ k hj, List.getElem?_take_of_lt hk, hy, Option.map_some]

theorem getElem?_packBits (b : List Bool) (k : Nat) :
    (packBits b)[k]? = if k < ceilDiv8 b.length then some (packGroup b k) else none := by
  by_cases hk : k < ceilDiv8 b.length <;> simp [packBits, hk]

/-- The bits of the packed bytes are the packed bits and the padding of the last group. -/
theorem flatMap_byteBits_packBits (b : List Bool) :
    (packBits b).flatMap byteBits = b ++ List.replicate (8 * ceilDiv8 b.length - b.length) false := by
  apply List.ext_getElem?
  intro i
  have hj : i % 8 < 8 := Nat.mod_lt i (by decide)
  have hm : i / 8 < ceilDiv8 b.length ↔ i < 8 * ceilDiv8 b.length := by omega
  have hle : b.length ≤ 8 * ceilDiv8 b.length := by unfold ceilDiv8; omega
  conv_lhs => rw [← Nat.div_add_mod i 8]
  rw [getElem?_flatMap_byteBits _ _ hj, getElem?_packBits]
  obtain hin | ⟨hpad, hlt⟩ | hout :
      i < b.length ∨ (b.length ≤ i ∧ i < 8 * ceilDiv8 b.length) ∨ 8 * ceilDiv8 b.length ≤ i := by omega
  · rw [List.getElem?_append_left hin, if_pos (by omega), Option.map_some, getLsbD_packGroup, Nat.div_add_mod]
    simp [hj, hin]
  · rw [List.getElem?_append_right hpad, List.getElem?_replicate_of_lt (by omega), if_pos (by omega), Option.map_some,
      getLsbD_packGroup, Nat.div_add_mod, List.getD_eq_default _ _ hpad, Bool.and_false]
  · rw [if_neg (by omega), Option.map_none, List.getElem?_eq_none (by simp; omega)]

/-- Settles O39: the count byte declares all the packed bytes. -/
theorem unpackingPackedBitsRecoversThem : Obligations.UnpackingPackedBitsRecoversThem := by
  unfold Obligations.UnpackingPackedBitsRecoversThem
  intro b hb
  have hm : (BitVec.ofNat 8 (ceilDiv8 b.length)).toNat = (packBits b).length := by
    rw [length_packBits, BitVec.toNat_ofNat, Nat.mod_eq_of_lt (by unfold ceilDiv8; omega)]
  rw [unpackBits_of_long hm.le, hm, List.take_length, flatMap_byteBits_packBits]

/-! ### The unpacker's commands one by one (43_bitunpack.md R101 to R103) -/

/-- R102, phase DATA: where a byte is left to come, UPREM goes down by one (R8). -/
theorem takeData_of_data {s : State} (hph : s.upPh = .data) (hrem : s.upRem ≠ 0x00#8) (y : Byte) :
    takeData y s = { s with upRem := s.upRem - 1#8, upPh := if s.upRem = 0x01#8 then .done else .data } := by
  simp [takeData, countDown, hph, hrem]

theorem execUpByte_of_count {arg : Word16} {s : State} (hl : arg.extractLsb' 8 8 = 0x00#8) (hph : s.upPh = .count) :
    execUpByte arg s = .next (latch .ack (takeCount (argByte arg) s)) := by
  rw [execUpByte, checkOperand_of_legal (by simp [hl]), hph]
  rfl

theorem execUpByte_of_done {arg : Word16} {s : State} (hl : arg.extractLsb' 8 8 = 0x00#8) (hph : s.upPh = .done) :
    execUpByte arg s = .next (latch .ack s) := by
  rw [execUpByte, checkOperand_of_legal (by simp [hl]), hph]
  rfl

/-- Settles O34: by whether the operand is legal. -/
theorem upInitStartsABuffer : Obligations.UpInitStartsABuffer := by
  unfold Obligations.UpInitStartsABuffer
  refine ⟨rfl, fun arg s => ⟨?_, fun h => checkOperand_answers_badOperand (by simp [h])⟩⟩
  rintro rfl
  exact exec_eq_next _ s

/-- Settles O35: by whether the operand is legal, and then by the phase. -/
theorem upByteTakesTheNextByte : Obligations.UpByteTakesTheNextByte := by
  unfold Obligations.UpByteTakesTheNextByte
  refine ⟨fun arg => rfl, fun arg s => ⟨fun h hph => ?_, fun h hph hrem => ?_, fun h hph => ?_, fun h => ?_⟩⟩
  · exact execUpByte_of_count h hph
  · rw [exec, execUpByte_of_data h hph, takeData_of_data hph hrem]
    rfl
  · exact execUpByte_of_done h hph
  · exact checkOperand_answers_badOperand (by simp [h])

/-- Settles O37: by whether the operand is legal, and then by whether the phase is DONE. -/
theorem upEndReportsTheCountOrFormatError : Obligations.UpEndReportsTheCountOrFormatError := by
  unfold Obligations.UpEndReportsTheCountOrFormatError
  refine ⟨rfl, fun arg s => ⟨?_, ?_, fun h => checkOperand_answers_badOperand (by simp [h])⟩⟩
  · rintro rfl hdone
    rw [exec_eq_next, execState_upEnd, if_pos hdone]
    rfl
  · rintro rfl hdone
    rw [exec_eq_next, execState_upEnd, if_neg hdone]
    rfl

/-! ### The unpacker's commands over a whole run (43_bitunpack.md R108)

The idea: a reset-free drive answers the unpacker's commands as they are answered one after the other (`runPort_unit`). After the
count byte `y0` and `ys` the unpacker `Awaits` the declared bytes that are still missing (`upBytes_from_count`). There are none left
exactly if `y0.toNat ≤ ys.length`: by this UP.END answers, and by this `unpackBits` decides. -/

/-- A buffer that starts fresh is in phase COUNT, and the UP.INIT has been acknowledged. -/
theorem upPh_of_startsFresh {s : State} {pre : List Instr} (h : StartsFresh .unpacker (.upInit 0x0000#16) pre s) :
    (execAll pre s).upPh = .count ∧ commandResponses pre s = pre.map fun _ => 0x00000#20 := by
  obtain rfl | ⟨rfl, hph, -, -⟩ := h
  · exact ⟨rfl, rfl⟩
  · exact ⟨hph, rfl⟩

/-- The answers to bytes after the count: the declared ones come back as VAL, those beyond are acknowledged. -/
theorem commandResponses_upBytes {s : State} {n : Nat} (hs : s.Awaits n) (ys : List Byte) :
    commandResponses (ys.map fun y => .upByte (y.setWidth 16)) s =
      (ys.take n).map (fun y => 0x1#4 ++ y.setWidth 16) ++ List.replicate (ys.length - n) 0x00000#20 := by
  induction ys generalizing s n with
  | nil => simp
  | cons y ys ih =>
    have ⟨_, hph⟩ := hs
    cases n with
    | zero =>
      have hstep : execState (.upByte (y.setWidth 16)) s = latch .ack s := by
        rw [execState_upByte, hph]
        rfl
      rw [List.map_cons, commandResponses_cons, hstep, ih (s := latch .ack s) hs]
      rfl
    | succ n =>
      have hstep : execState (.upByte (y.setWidth 16)) s = latch (.val (y.setWidth 16)) (takeData y s) := by
        rw [execState_upByte, hph]
        rfl
      have hleft : (latch (.val (y.setWidth 16)) (takeData y s)).Awaits n := awaits_takeData hs y
      rw [List.map_cons, commandResponses_cons, hstep, ih hleft, List.length_cons, Nat.add_sub_add_right]
      rfl

/-- R108: the registers after each byte of a buffer, and the answers. -/
theorem upBytes_from_count {s : State} (hs : s.upPh = .count) (y0 : Byte) (ys : List Byte) :
    (execAll ((y0 :: ys).map fun y => .upByte (y.setWidth 16)) s).Awaits (y0.toNat - ys.length) ∧
      (execAll ((y0 :: ys).map fun y => .upByte (y.setWidth 16)) s).upCnt = y0 ∧
      commandResponses ((y0 :: ys).map fun y => .upByte (y.setWidth 16)) s =
        0x00000#20 :: ((ys.take y0.toNat).map (fun y => 0x1#4 ++ y.setWidth 16) ++
          List.replicate (ys.length - y0.toNat) 0x00000#20) := by
  have hcount : execState (.upByte (y0.setWidth 16)) s = latch .ack (takeCount y0 s) := by rw [execState_upByte, hs]
  have hy0 : (latch .ack (takeCount y0 s)).Awaits y0.toNat := awaits_takeCount y0 s
  obtain ⟨hend, hcnt, -⟩ := awaits_upBytes hy0 ys
  rw [List.map_cons, execAll_cons, commandResponses_cons, hcount, commandResponses_upBytes hy0]
  exact ⟨hend, hcnt, rfl⟩

/-- A buffer on which `unpackBits` fails leaves the unpacker in a phase in which UP.END answers FormatError (R103). -/
theorem upPh_ne_done_of_unpackBits_error {s : State} (hs : s.upPh = .count) {buf : List Byte} {e : CmdError}
    (h : unpackBits buf = .error e) : (execAll (buf.map fun y => .upByte (y.setWidth 16)) s).upPh ≠ .done := by
  cases buf with
  | nil => simp [hs]
  | cons y0 ys =>
    obtain ⟨hend, -, -⟩ := upBytes_from_count hs y0 ys
    rw [Ne, upPh_eq_done_iff hend, Nat.sub_eq_zero_iff_le]
    intro hlong
    simp [unpackBits_of_long hlong] at h

theorem unpackBits_eq_ok {buf : List Byte} {bits : List Bool} {n : Byte} (h : unpackBits buf = .ok (bits, n)) :
    ∃ ys, buf = n :: ys ∧ n.toNat ≤ ys.length ∧ bits = (ys.take n.toNat).flatMap byteBits := by
  cases buf with
  | nil => simp [unpackBits] at h
  | cons y0 ys =>
    obtain hshort | hlong := Nat.lt_or_ge ys.length y0.toNat
    · simp [unpackBits_of_short hshort] at h
    · obtain ⟨rfl, rfl⟩ : (ys.take y0.toNat).flatMap byteBits = bits ∧ y0 = n := by
        simpa [unpackBits_of_long hlong] using h
      exact ⟨ys, rfl, hlong, rfl⟩

/-- The VAL answers among acknowledgements, read back as the bytes they carry (R104). -/
theorem filterMap_valByte?_answers (pre : List Instr) (ys : List Byte) (k : Nat) :
    (pre.map (fun _ => 0x00000#20) ++ [0x00000#20] ++ ys.map (fun y => 0x1#4 ++ y.setWidth 16) ++
      List.replicate k 0x00000#20).filterMap valByte? = ys := by
  have hack : valByte? 0x00000#20 = none := valByte?_ack
  have hval (y : Byte) : valByte? (0x1#4 ++ y.setWidth 16) = some y := valByte?_val y
  simp [List.filterMap_map, hack, hval]

/-- Settles O40: the unpacker's commands, taken out of the drive, are one buffer from phase COUNT. -/
theorem unpackerCommandsComputeUnpackBits : Obligations.UnpackerCommandsComputeUnpackBits := by
  unfold Obligations.UnpackerCommandsComputeUnpackBits
  refine ⟨fun s ps pre buf hps hfresh hcmds => ?_, fun s ps pre y0 ys hps hfresh hcmds => ?_⟩
  · obtain ⟨hcount, hacks⟩ := upPh_of_startsFresh hfresh
    obtain ⟨t, rs, hrun, -, hrs⟩ := runPort_unit hps (.refl .unpacker s)
    rw [hcmds, commandResponses_append, commandResponses_append, execAll_append, hacks, commandResponses_cons,
      commandResponses_nil, execState_upEnd, latch_rsp] at hrs
    refine ⟨t, rs, hrun, fun e he => ?_, fun bits n hok => ?_⟩
    · rw [hrs, if_neg (upPh_ne_done_of_unpackBits_error hcount he), List.getLast?_concat]
      rfl
    · obtain ⟨ys, rfl, hlong, rfl⟩ := unpackBits_eq_ok hok
      obtain ⟨hend, hcnt, hbytes⟩ := upBytes_from_count hcount n ys
      have hdone := (upPh_eq_done_iff hend).mpr (Nat.sub_eq_zero_of_le hlong)
      have hall : unitResponses .unpacker ps rs = pre.map (fun _ => 0x00000#20) ++ [0x00000#20] ++
          (ys.take n.toNat).map (fun y => 0x1#4 ++ y.setWidth 16) ++
          List.replicate (ys.length - n.toNat) 0x00000#20 ++ [0x1#4 ++ n.setWidth 16] := by
        rw [hrs, if_pos hdone, hcnt, hbytes]
        simp [Response.word]
      refine ⟨hall, ?_⟩
      rw [hall, List.dropLast_concat, filterMap_valByte?_answers]
  · obtain ⟨hcount, -⟩ := upPh_of_startsFresh hfresh
    obtain ⟨⟨hrem, hph⟩, hcnt, -⟩ := upBytes_from_count hcount y0 ys
    obtain ⟨t, rs, hrun, ⟨htph, htcnt, htrem⟩, -⟩ := runPort_unit hps (.refl .unpacker s)
    rw [hcmds, execAll_append] at htph htcnt htrem
    refine ⟨t, rs, hrun, htcnt.trans hcnt, by rw [htrem, hrem], ?_⟩
    simp only [htph, hph, Nat.sub_eq_zero_iff_le]

end Sys2Proof.Machine

/-! ### Errors (60_exceptions.md R115 to R122)

The idea: `wordError` says which error, if any, a word raises in a state, in the order of R121. `execWord` answers exactly that
error, and then it only latches the response (`execWord_answersWithError`). That one fact gives all three statements. -/

namespace Sys2Proof.Machine

/-! #### The error in a response word (30_encoding.md R46, R47) -/

/-- The error a response carries. -/
def Response.error? : Response → Option CmdError
  | .err e => some e
  | _ => none

theorem code_injective : Function.Injective CmdError.code := by
  intro e e' h
  cases e <;> cases e' <;> simp_all [CmdError.code]

theorem error?_eq_some_iff (r : Response) (e : CmdError) : r.error? = some e ↔ r = .err e := by
  cases r <;> simp [Response.error?]

theorem rspKind_word_eq_err_iff (r : Response) : rspKind r.word = 0xF#4 ↔ ∃ e, r = .err e := by
  cases r <;> simp

theorem word_eq_err_iff (r : Response) (e : CmdError) : r.word = (Response.err e).word ↔ r = .err e := by
  refine ⟨fun h => ?_, fun h => by rw [h]⟩
  obtain ⟨e', rfl⟩ := (rspKind_word_eq_err_iff r).mp (by rw [h, rspKind_err])
  have hcode : e'.code = e.code := by simpa using congrArg rspVal h
  rw [code_injective hcode]

/-! #### Which error a word raises -/

/-- The error of a command with a legal operand: UP.END raises FormatError unless every declared byte has come (R117). -/
def ruleError (i : Instr) (s : State) : Option CmdError :=
  match i with
  | .upEnd _ => if s.upPh = .done then none else some .formatError
  | _ => none

/-- The error of a recognised command: its operand is looked at before its own rule (R120, R121). -/
def commandError (i : Instr) (s : State) : Option CmdError :=
  if operandLegal i.format i.arg then ruleError i s else some .badOperand

/-- The error of a command word: its opcode is looked at first (R119, R121). -/
def wordError (w : CmdWord) (s : State) : Option CmdError :=
  match decode w with
  | .ok i => commandError i s
  | .error _ => some .illegalOpcode

/-- The result latches a response that carries the error `err`, if there is one, and with an error it latches it in `s` itself. -/
def AnswersWithError (err : Option CmdError) (s : State) (res : Result) : Prop :=
  ∃ r t, res = .next (latch r t) ∧ r.error? = err ∧ (err ≠ none → t = s)

theorem AnswersWithError.ack (s t : State) : AnswersWithError none s (respond .ack t) := ⟨_, t, rfl, rfl, nofun⟩

theorem AnswersWithError.val (v : Word16) (s t : State) : AnswersWithError none s (respond (.val v) t) := ⟨_, t, rfl, rfl, nofun⟩

theorem AnswersWithError.raise (e : CmdError) (s : State) : AnswersWithError (some e) s (raise e s) :=
  ⟨_, s, rfl, rfl, fun _ => rfl⟩

theorem AnswersWithError.checkOperand {err : Option CmdError} {s : State} {fmt : Format} {arg : Word16} {ok : Result}
    (h : AnswersWithError err s ok) :
    AnswersWithError (if operandLegal fmt arg then err else some .badOperand) s (checkOperand fmt arg s ok) := by
  cases hl : operandLegal fmt arg
  · rw [checkOperand_of_illegal hl]
    exact .raise .badOperand s
  · rwa [checkOperand_of_legal hl]

theorem exec_answersWithError (i : Instr) (s : State) : AnswersWithError (commandError i s) s (exec i s) := by
  cases i with
  | crcInit | crcUpd | lrcInit | lrcUpd | pkInit | upInit => exact .checkOperand (.ack s _)
  | crcRd | crcChk | lrcRd | lrcChk => exact .checkOperand (.val _ s _)
  | pkBit arg =>
    refine .checkOperand ?_
    split
    · exact .val _ s _
    · exact .ack s _
  | pkFlush arg =>
    refine .checkOperand ?_
    split
    · exact .ack s _
    · exact .val _ s _
  | upByte arg =>
    refine .checkOperand ?_
    split
    · exact .ack s _
    · exact .val _ s _
    · exact .ack s _
  | upEnd arg =>
    refine .checkOperand ?_
    cases hph : s.upPh
    case done => simpa [ruleError, hph] using .val _ s s
    case count => simpa [ruleError, hph] using .raise .formatError s
    case data => simpa [ruleError, hph] using .raise .formatError s

theorem execWord_answersWithError (w : CmdWord) (s : State) : AnswersWithError (wordError w s) s (execWord w s) := by
  unfold wordError
  cases hw : decode w with
  | ok i =>
    rw [execWord_of_ok hw]
    exact exec_answersWithError i s
  | error r =>
    rw [execWord_of_illegal hw]
    exact .raise .illegalOpcode s

/-- An error response and nothing else is what an erring word leaves behind (R115). -/
theorem eq_latch_err_of_execWord {w : CmdWord} {s t : State} (h : execWord w s = .next t) (hk : rspKind t.rsp = 0xF#4) :
    ∃ e, t = latch (.err e) s := by
  obtain ⟨r, t', ht, hr, hs⟩ := execWord_answersWithError w s
  obtain rfl : t = latch r t' := by cases h.symm.trans ht; rfl
  obtain ⟨e, rfl⟩ := (rspKind_word_eq_err_iff r).mp hk
  obtain rfl : t' = s := hs (by simp [← hr, Response.error?])
  exact ⟨e, rfl⟩

theorem rsp_eq_err_iff {w : CmdWord} {s t : State} (h : execWord w s = .next t) (e : CmdError) :
    t.rsp = (Response.err e).word ↔ wordError w s = some e := by
  obtain ⟨r, t', ht, hr, -⟩ := execWord_answersWithError w s
  obtain rfl : t = latch r t' := by cases h.symm.trans ht; rfl
  rw [latch_rsp, word_eq_err_iff, ← error?_eq_some_iff, hr]

/-- An edge that shows an error executes a word: a reset edge and an idle edge show the zero word. -/
theorem sameRegs_of_clockEdge_err {p : PortSample} {s t : State} (h : clockEdge p s = .next t) (hk : rspKind t.rsp = 0xF#4) :
    t.rspV = true ∧ s.SameRegs t := by
  have hzero : rspKind 0x00000#20 ≠ 0xF#4 := by decide
  unfold clockEdge at h
  split at h
  · cases h
    exact absurd hk hzero
  split at h
  · obtain ⟨e, rfl⟩ := eq_latch_err_of_execWord h hk
    exact ⟨rfl, sameRegs_latch _ s⟩
  · cases h
    exact absurd hk hzero

/-- Settles O41: raising is latching the error, and a step is an edge, where an erring word does nothing else. -/
theorem errorsChangeNoRegister : Obligations.ErrorsChangeNoRegister := by
  unfold Obligations.ErrorsChangeNoRegister
  exact ⟨fun _ _ => rfl, fun _ _ => sameRegs_of_clockEdge_err⟩

/-- Settles O43: an error changes the response port only, and `Exec` does not read it. -/
theorem errorsAreNotSticky : Obligations.ErrorsAreNotSticky := by
  unfold Obligations.ErrorsAreNotSticky
  intro w v s t h hk
  obtain ⟨e, rfl⟩ := eq_latch_err_of_execWord h hk
  exact execWord_setResponse v s true _

/-! #### The cause of each error (60_exceptions.md R117, R119, R120) -/

theorem ruleError_eq_some_iff (i : Instr) (s : State) (e : CmdError) :
    ruleError i s = some e ↔ (∃ arg, i = .upEnd arg) ∧ s.upPh ≠ .done ∧ e = .formatError := by
  cases i with
  | upEnd arg => by_cases hph : s.upPh = .done <;> simp [ruleError, hph, eq_comm]
  | _ => simp [ruleError]

theorem operandLegal_iff (i : Instr) :
    operandLegal i.format i.arg = true ↔ i.arg &&& i.format.mustBeZero = 0x0000#16 := by
  rw [operandLegal_eq_wf, Instr.wf, beq_iff_eq]

theorem wordError_eq_illegalOpcode_iff (w : CmdWord) (s : State) :
    wordError w s = some .illegalOpcode ↔ ∃ r, decode w = .error r := by
  unfold wordError
  cases decode w with
  | error r => simp
  | ok i => cases hl : operandLegal i.format i.arg <;> simp [commandError, hl, ruleError_eq_some_iff]

theorem wordError_eq_badOperand_iff (w : CmdWord) (s : State) :
    wordError w s = some .badOperand ↔ ∃ i, decode w = .ok i ∧ i.arg &&& i.format.mustBeZero ≠ 0x0000#16 := by
  unfold wordError
  cases decode w with
  | error r => simp
  | ok i => cases hl : operandLegal i.format i.arg <;> simp [commandError, hl, ruleError_eq_some_iff, ← operandLegal_iff]

theorem commandError_eq_formatError_iff (i : Instr) (s : State) :
    commandError i s = some .formatError ↔ i = .upEnd 0x0000#16 ∧ s.upPh ≠ .done := by
  unfold commandError
  constructor
  · intro h
    split at h
    case isTrue hl =>
      obtain ⟨⟨arg, rfl⟩, hph, -⟩ := (ruleError_eq_some_iff i s _).mp h
      obtain rfl : arg = 0x0000#16 := by simpa [Instr.format, Instr.arg] using hl
      exact ⟨rfl, hph⟩
    case isFalse => cases h
  · rintro ⟨rfl, hph⟩
    exact (ruleError_eq_some_iff (.upEnd 0x0000#16) s _).mpr ⟨⟨_, rfl⟩, hph, rfl⟩

theorem wordError_eq_formatError_iff (w : CmdWord) (s : State) :
    wordError w s = some .formatError ↔ w = 0x420000#24 ∧ s.upPh ≠ .done := by
  have hword : w = 0x420000#24 ↔ decode w = .ok (.upEnd 0x0000#16) := (decode_eq_ok_iff w (.upEnd 0x0000#16)).symm
  rw [hword, wordError]
  cases decode w with
  | error r => simp
  | ok i => simp [commandError_eq_formatError_iff]

/-- Settles O42: the response word tells which error the word raises, and each error has its own cause. -/
theorem eachErrorHasExactlyItsCause : Obligations.EachErrorHasExactlyItsCause := by
  unfold Obligations.EachErrorHasExactlyItsCause
  intro w s t h
  refine ⟨?_, ?_, ?_, fun hk => ?_⟩
  · exact (rsp_eq_err_iff h .illegalOpcode).trans (wordError_eq_illegalOpcode_iff w s)
  · exact (rsp_eq_err_iff h .badOperand).trans (wordError_eq_badOperand_iff w s)
  · exact (rsp_eq_err_iff h .formatError).trans (wordError_eq_formatError_iff w s)
  · obtain ⟨e, rfl⟩ := eq_latch_err_of_execWord h hk
    cases e with
    | illegalOpcode => exact .inl rfl
    | badOperand => exact .inr (.inl rfl)
    | formatError => exact .inr (.inr rfl)

end Sys2Proof.Machine

/-! ### Reset and idle edges (70_reset_and_hazards.md R136, R140, R150)

The idea for R150: an edge answers alike from two states with the same registers (`clockEdge_congr`), and an idle edge leaves the
registers and shows nothing. So a drive acts as what is left of it without its idle samples (`runPort_filter_live`), and two drives
that differ only in those are compared through that one run. -/

namespace Sys2Proof.Machine

/-- Settles O8: the edge is a reset edge, which writes every register. -/
theorem resetEdgeClearsEveryRegister : Obligations.ResetEdgeClearsEveryRegister := by
  unfold Obligations.ResetEdgeClearsEveryRegister
  intro s p ps hs hrst
  exact step_reset hs hrst

/-! #### The packer after it emits -/

/-- I1 of R18 where no bit is pending. -/
theorem State.PackerInv.pkAcc_eq_zero {s : State} (hs : s.PackerInv) (hn : s.pkN = 0#3) : s.pkAcc = 0x00#8 := by
  simpa [State.PackerInv, hn] using hs

/-- PK.FLUSH clears the packer, or finds it clear: with no bit pending I1 says that PKACC is zero. -/
theorem pkFlush_agreeOn_reset {s : State} (hs : s.PackerInv) :
    (execState (.pkFlush 0x0000#16) s).AgreeOn .packer State.reset := by
  obtain ⟨-, hn, ht⟩ | ⟨-, -, ht⟩ | ⟨hne, -⟩ := execPkFlush_next (exec_eq_next (.pkFlush 0x0000#16) s)
  · rw [ht]
    exact ⟨hs.pkAcc_eq_zero hn, hn⟩
  · rw [ht]
    exact ⟨rfl, rfl⟩
  · exact absurd rfl hne

/-- Settles O33: PK.FLUSH by whether a bit is pending; PK.BIT clears the packer as it emits. -/
theorem emittingLeavesThePackerInInitState : Obligations.EmittingLeavesThePackerInInitState := by
  unfold Obligations.EmittingLeavesThePackerInInitState
  intro s hinv
  obtain ⟨hpk, -⟩ := (inv_iff s).mp hinv
  refine ⟨⟨_, exec_eq_next _ s, pkFlush_agreeOn_reset hpk⟩, fun v hfull => ⟨_, exec_eq_next _ s, ?_⟩⟩
  rw [execState_pkBit_of_full hfull]
  exact ⟨rfl, rfl⟩

/-! #### Agreement on all registers -/

theorem sameRegs_iff {s t : State} : s.SameRegs t ↔ ∀ u, s.AgreeOn u t := by
  refine ⟨State.SameRegs.agreeOn, fun h => ?_⟩
  obtain ⟨hacc, hn⟩ := h .packer
  exact ⟨h .crc, h .lrc, hacc, hn, h .unpacker⟩

theorem State.SameRegs.refl (s : State) : s.SameRegs s :=
  sameRegs_iff.mpr fun u => .refl u s

theorem State.SameRegs.symm {s t : State} (h : s.SameRegs t) : t.SameRegs s :=
  sameRegs_iff.mpr fun u => (h.agreeOn u).symm

theorem State.SameRegs.trans {s t v : State} (h : s.SameRegs t) (h' : t.SameRegs v) : s.SameRegs v :=
  sameRegs_iff.mpr fun u => (h.agreeOn u).trans (h'.agreeOn u)

theorem State.SameRegs.setInputs {s t : State} (h : s.SameRegs t) (ps qs : List PortSample) :
    { s with inputs := ps }.SameRegs { t with inputs := qs } := h

/-! #### One edge from two states with the same registers -/

theorem execWord_congr {w : CmdWord} {s s' t t' : State} (hs : s.SameRegs s') (h : execWord w s = .next t)
    (h' : execWord w s' = .next t') : t.SameRegs t' ∧ t.shown = t'.shown := by
  cases hw : decode w with
  | ok i =>
    rw [execWord_of_ok hw, exec_eq_next] at h h'
    cases h
    cases h'
    have hrsp := (execState_congr (hs.agreeOn i.unit)).2
    exact ⟨sameRegs_iff.mpr fun u => (hs.agreeOn u).execState i, by simp [State.shown, hrsp]⟩
  | error r =>
    rw [execWord_of_illegal hw] at h h'
    cases h
    cases h'
    exact ⟨hs, rfl⟩

theorem clockEdge_congr {p : PortSample} {s s' t t' : State} (hs : s.SameRegs s') (h : clockEdge p s = .next t)
    (h' : clockEdge p s' = .next t') : t.SameRegs t' ∧ t.shown = t'.shown := by
  unfold clockEdge at h h'
  split at h
  next hrst =>
    rw [if_pos hrst] at h'
    cases h
    cases h'
    exact ⟨.refl (resetEdge s), rfl⟩
  next hrst =>
    rw [if_neg hrst] at h'
    split at h
    next hv =>
      rw [if_pos hv] at h'
      exact execWord_congr hs h h'
    next hv =>
      rw [if_neg hv] at h'
      cases h
      cases h'
      exact ⟨hs, rfl⟩

/-! #### A drive without its idle samples -/

/-- A sample at which the edge is not idle (R24): a reset, or a word to execute. -/
def PortSample.live (p : PortSample) : Bool := p.rst || p.cmdValid

theorem clockEdge_of_not_live {p : PortSample} (hp : p.live = false) (s : State) : clockEdge p s = .next (idleEdge s) := by
  obtain ⟨hrst, hv⟩ := Bool.or_eq_false_iff.mp hp
  simp [clockEdge, hrst, hv]

@[simp] theorem shown_idleEdge (s : State) : (idleEdge s).shown = none := rfl

theorem sameRegs_idleEdge (s : State) : (idleEdge s).SameRegs s := .refl s

/-- A drive leaves the registers and shows the responses that its live samples alone do, from any state with the same registers. -/
theorem runPort_filter_live (ps : List PortSample) {s s' : State} (hs : s.SameRegs s') :
    ∃ t rs t' rs', runPort ps s = .next (t, rs) ∧ runPort (ps.filter PortSample.live) s' = .next (t', rs') ∧
      t.SameRegs t' ∧ rs.filterMap id = rs'.filterMap id := by
  induction ps generalizing s s' with
  | nil => exact ⟨_, _, _, _, runPort_nil s, runPort_nil s', hs, rfl⟩
  | cons p ps ih =>
    cases hp : p.live with
    | true =>
      obtain ⟨v, hv, hin⟩ := clockEdge_completes p { s with inputs := ps }
      obtain ⟨v', hv', hin'⟩ := clockEdge_completes p { s' with inputs := ps.filter PortSample.live }
      obtain ⟨hregs, hshown⟩ := clockEdge_congr (hs.setInputs _ _) hv hv'
      obtain ⟨t, rs, t', rs', hrun, hrun', ht, hrs⟩ := ih hregs
      rw [List.filter_cons_of_pos hp]
      refine ⟨t, _, t', _, runPort_cons hv hin hrun, runPort_cons hv' hin' hrun', ht, ?_⟩
      rw [hshown, List.filterMap_cons, List.filterMap_cons, hrs]
    | false =>
      have hidle := clockEdge_of_not_live hp { s with inputs := ps }
      obtain ⟨t, rs, t', rs', hrun, hrun', ht, hrs⟩ := ih ((sameRegs_idleEdge { s with inputs := ps }).trans hs)
      rw [List.filter_cons_of_neg (by simp [hp])]
      refine ⟨t, _, t', rs', runPort_cons hidle rfl hrun, hrun', ht, ?_⟩
      rw [shown_idleEdge, List.filterMap_cons_none rfl, hrs]

/-- Settles O11: both drives act as their live samples do from `s'`, and these are the same list. -/
theorem idleEdgesDoNotChangeResults : Obligations.IdleEdgesDoNotChangeResults := by
  unfold Obligations.IdleEdgesDoNotChangeResults
  intro s s' ps qs hs hlive
  obtain ⟨t, rs, v, vs, hps, hv, ht, hrs⟩ := runPort_filter_live ps hs
  obtain ⟨t', rs', v', vs', hqs, hv', ht', hrs'⟩ := runPort_filter_live qs (.refl s')
  have hfilter : ps.filter PortSample.live = qs.filter PortSample.live := hlive
  rw [hfilter, hv'] at hv
  cases hv
  exact ⟨t, rs, t', rs', hps, hqs, ht.trans ht'.symm, hrs.trans hrs'.symm⟩

end Sys2Proof.Machine

/-! ### Ten words written out (30_encoding.md R50, R51; 95_test_vectors.md section 2.6) -/

namespace Sys2Proof

/-- The decoder's one reason to reject a word is the opcode the word holds. -/
theorem decode_error_eq {w : CmdWord} {r : DecodeReject} (h : decode w = .error r) : r = .illegalOpcode (opField w) := by
  unfold decode at h
  split at h
  case h_1 => cases h
  case h_2 =>
    cases h
    rfl

theorem decode_of_not_mem_knownOpcodes {w : CmdWord} (h : opField w ∉ knownOpcodes) :
    decode w = .error (.illegalOpcode (opField w)) := by
  obtain ⟨r, hr⟩ := (decode_error_iff w).mpr h
  rw [hr, decode_error_eq hr]

end Sys2Proof

namespace Sys2Proof.Machine

/-- Settles O1: each of the eight words is the encoding of its command, and 0x00 and 0xFF are no row's opcode. -/
theorem specWordsDecodeToTheirCommands : Obligations.SpecWordsDecodeToTheirCommands := by
  unfold Obligations.SpecWordsDecodeToTheirCommands
  have h00 : opField 0x000000#24 ∉ knownOpcodes := by decide
  have hFF : opField 0xFFFFFF#24 ∉ knownOpcodes := by decide
  exact ⟨decode_encode (.crcInit 0x0000), decode_encode (.crcUpd 0x0031), decode_encode (.crcChk 0xCDC5),
    decode_encode (.lrcUpd 0x000A), decode_encode (.pkBit 0x0001), decode_encode (.pkFlush 0x0000),
    decode_encode (.upByte 0x0055), decode_encode (.upEnd 0x0000),
    decode_of_not_mem_knownOpcodes h00, decode_of_not_mem_knownOpcodes hFF⟩

/-! ### The table is linear (10_state.md R10, section 3) -/

theorem crcTable_xor (i j : Byte) : crcTable (i ^^^ j) = crcTable i ^^^ crcTable j := by
  rw [crcTable, BitVec.setWidth_xor, tableRounds_xor, crcTable, crcTable]

/-- Settles O17: the rounds are linear, and so is the zero-extension before them; the eight basis entries are closed runs of eight
rounds each. -/
theorem crcTableIsLinear : Obligations.CrcTableIsLinear := by
  unfold Obligations.CrcTableIsLinear
  exact ⟨crcTable_xor, by decide⟩

end Sys2Proof.Machine
